-- ==== Sys2Proof/Word.lean ====
section
/-! DEFINITION. The sizes among the parameters of spec/00_scope.md R9, and the values FPC handles: addresses and words,
the two matrices, the register snapshot, the decoded switches, the port registers, and what an iteration takes from the
environment. Plain data only. The other parameters of R9 stand in Config.lean. -/

namespace Sys2Proof.Config

/-- `N_SWROW` = 3, the rows of the switch matrix (source). -/
abbrev nSwRow : Nat := 3
/-- `N_COL` = 12, the column lines both matrices share (source). -/
abbrev nCol : Nat := 12
/-- `N_LEDROW` = 6, the rows of the LED matrix (source). -/
abbrev nLedRow : Nat := 6
/-- `W_SR` = 22, the width of the switch register (source). -/
abbrev wSr : Nat := 22
/-- `W_ADDR` = 22, the width of the displayed and of the console address (source). -/
abbrev wAddr : Nat := 22
/-- `W_DATA` = 16, the width of the displayed data and of the data latch (source). -/
abbrev wData : Nat := 16
/-- `W_REG` = 16, the width of PSW, IR and the general registers of a snapshot (decision D28). -/
abbrev wReg : Nat := 16

end Sys2Proof.Config

namespace Sys2Proof

/-- A displayed or console address, `W_ADDR` bits (spec/00_scope.md R9). -/
abbrev Addr := BitVec Config.wAddr
/-- The switch register, `W_SR` bits (R9). -/
abbrev SwitchReg := BitVec Config.wSr
/-- A data word, `W_DATA` bits (R9). -/
abbrev Word := BitVec Config.wData
/-- A register of a snapshot, `W_REG` bits (R9). -/
abbrev RegWord := BitVec Config.wReg
/-- The columns of one matrix row, column 0 as bit 0 (R11, R122). -/
abbrev Columns := BitVec Config.nCol
/-- Activity counts, one for each address bit (spec/20_memory.md R73). -/
abbrev Activity := Vector Nat Config.wAddr

/-- A 3 by 12 matrix of bits: the raw switch matrix (R11), or the levels the column lines read at while each switch
row is selected (R50). -/
structure SwitchMatrix where
  row0 : Columns
  row1 : Columns
  row2 : Columns
  deriving DecidableEq, Repr, Inhabited

/-- Row `r` of a 3 by 12 matrix; rows 0 to 2. -/
def SwitchMatrix.row (m : SwitchMatrix) (r : Fin Config.nSwRow) : Columns :=
  match r with
  | 0 => m.row0
  | 1 => m.row1
  | 2 => m.row2

/-- The matrix with row `r` replaced. -/
def SwitchMatrix.setRow (m : SwitchMatrix) (r : Fin Config.nSwRow) (v : Columns) : SwitchMatrix :=
  match r with
  | 0 => { m with row0 := v }
  | 1 => { m with row1 := v }
  | 2 => { m with row2 := v }

/-- The 6 by 12 LED grid (R11). -/
structure LedGrid where
  row0 : Columns
  row1 : Columns
  row2 : Columns
  row3 : Columns
  row4 : Columns
  row5 : Columns
  deriving DecidableEq, Repr, Inhabited

/-- Row `r` of the LED grid; rows 0 to 5. -/
def LedGrid.row (g : LedGrid) (r : Fin Config.nLedRow) : Columns :=
  match r with
  | 0 => g.row0
  | 1 => g.row1
  | 2 => g.row2
  | 3 => g.row3
  | 4 => g.row4
  | 5 => g.row5

/-- The grid with row `r` replaced. -/
def LedGrid.setRow (g : LedGrid) (r : Fin Config.nLedRow) (v : Columns) : LedGrid :=
  match r with
  | 0 => { g with row0 := v }
  | 1 => { g with row1 := v }
  | 2 => { g with row2 := v }
  | 3 => { g with row3 := v }
  | 4 => { g with row4 := v }
  | 5 => { g with row5 := v }

/-- The contents of the snapshot mailbox (spec/10_state.md R42). `pc` is an unsigned value of the open width `W_PC`,
so it is held as a number (log 11, log 22). -/
structure Snapshot where
  pc : Nat
  ir : RegWord
  psw : RegWord
  r : Vector RegWord 8
  act : Activity
  deriving DecidableEq, Repr, Inhabited

/-- Which registers of a torn take come from the newer snapshot (spec/20_memory.md R72). -/
structure TearMask where
  pc : Bool
  ir : Bool
  psw : Bool
  r : BitVec 8
  act : BitVec Config.wAddr
  deriving DecidableEq, Repr, Inhabited

/-- A snapshot the simulator writes while a take reads the mailbox: the newer snapshot and which of its registers
that take already sees (R72). -/
structure MidTake where
  newer : Snapshot
  mask : TearMask
  deriving DecidableEq, Repr, Inhabited

/-- What DECODE returns (spec/42_switch_scan_decode.md R168). -/
structure Switches where
  sr : SwitchReg
  r1Button : Bool
  r2Button : Bool
  swTest : Bool
  swLoadAddr : Bool
  swExam : Bool
  swDep : Bool
  swCont : Bool
  swEnableHalt : Bool
  swSinstSbusCycle : Bool
  swStart : Bool
  q1a : Bool
  q1b : Bool
  q2a : Bool
  q2b : Bool
  deriving DecidableEq, Repr, Inhabited

/-- The output port registers (spec/10_state.md R49): `swrow` 0 = row selected; `colOut` levels; `colDir` true =
outputs, false = inputs with pull-up; `ledrow` 1 = row energised. -/
structure Ports where
  swrow : BitVec Config.nSwRow
  colOut : Columns
  colDir : Bool
  ledrow : BitVec Config.nLedRow
  deriving DecidableEq, Repr, Inhabited

/-- `SWROW` with every switch row high: none is selected (R162). -/
def swRowsHigh : BitVec Config.nSwRow := BitVec.allOnes Config.nSwRow
/-- `COLOUT` with every column high: no lamp can light (R197). -/
def columnsHigh : Columns := BitVec.allOnes Config.nCol
/-- `LEDROW` with every LED row off (R195). -/
def ledRowsOff : BitVec Config.nLedRow := 0

/-- The idle line state (spec/43_light_encode_drive.md R197, spec/70_reset_and_hazards.md R341). -/
def Ports.idle : Ports := { swrow := swRowsHigh, colOut := columnsHigh, colDir := true, ledrow := ledRowsOff }

/-- The session results (spec/10_state.md R48); `Config.resultCode` gives their codes. -/
inductive SessionResult where
  | exit
  | restart
  | reload
  deriving DecidableEq, Repr

/-- The six status flags the source never derives (spec/10_state.md R24). -/
structure AuxFlags where
  data : Bool
  master : Bool
  pause : Bool
  run : Bool
  addrErr : Bool
  parErr : Bool
  deriving DecidableEq, Repr, Inhabited

/-- The two outputs of one EDGE.SAMPLE (spec/40_edge_detector.md R130). -/
structure Edge where
  rise : Bool
  fall : Bool
  deriving DecidableEq, Repr, Inhabited

/-- The two rotary decoders (spec/10_state.md R39). -/
inductive RotaryId where
  | rot1
  | rot2
  deriving DecidableEq, Repr, Inhabited

/-- The answer of the primitive MemRead (spec/20_memory.md R64); `never` is the primitive that never returns
(spec/93_implementation_defined.md U16). -/
inductive ReadAnswer where
  | ok (v : Word)
  | failed
  | never
  deriving DecidableEq, Repr, Inhabited

/-- The answer of MemWrite and of SimSetReg (R65, R66); `never` as in `ReadAnswer`. -/
inductive Ack where
  | ok
  | failed
  | never
  deriving DecidableEq, Repr, Inhabited

/-- The simulator's answers to the coming calls of each primitive, in order (log 5). -/
structure Answers where
  halted : List Bool
  reads : List ReadAnswer
  writes : List Ack
  setRegs : List Ack
  deriving DecidableEq, Repr, Inhabited

/-- No answer prepared: every answer is a free value (log 5). -/
def Answers.none : Answers := { halted := [], reads := [], writes := [], setRegs := [] }

/-- What the environment gives one iteration, the answers apart (spec/46_iteration_sequencer.md R280, "Inputs of one
ITER"). -/
structure Stimulus where
  /-- the stop source sets `keep_running` false before this iteration (R7, R311) -/
  stop : Bool
  /-- the levels of the column lines while each switch row is selected (R50) -/
  levels : SwitchMatrix
  ioOkScan : Bool
  ioOkDrive : Bool
  /-- the simulator delivers a snapshot before this iteration's take (R70) -/
  deliver : Option Snapshot
  /-- the simulator writes a snapshot while this iteration's take reads the mailbox, or after it (R72) -/
  midTake : Option MidTake
  deriving DecidableEq, Repr, Inhabited

/-- One entry of the agenda: what the environment does with the next step (log 1, log 2). -/
inductive Input where
  /-- the inputs of one iteration -/
  | iteration (x : Stimulus) (answers : Answers)
  /-- the surrounding software starts a session (spec/70_reset_and_hazards.md R342) -/
  | startSession
  /-- a code word of `nbits` bits is put on the model's own code-word port (log 2) -/
  | word (nbits w : Nat)
  deriving DecidableEq, Repr

end Sys2Proof
end

