-- ==== Sys2Proof/Config.lean ====
section
/-! DEFINITION. The implementation parameters of spec/00_scope.md R9, each under its own name; the sizes `N_SWROW`,
`N_COL`, `N_LEDROW`, `W_SR`, `W_ADDR`, `W_DATA` and `W_REG`, on which types depend, stand in Word.lean. A parameter whose value the spec fixes is a definition that every meaning reads, so that
replacing the definition replaces the parameter; a parameter the spec leaves OPEN, and every value the spec leaves
unspecified, is an opaque constant: nothing can be proved of it but what its type says (log 5, 9, 10, 11). -/

namespace Sys2Proof.Config

/-- `ROT_SENS` = 4 (source). -/
def rotSens : Int := 4

/-- The two readings of the comparison against `ROT_SENS` (conflict C1). -/
inductive RotCmp where
  /-- `>=`: reaching the threshold fires -/
  | reaching
  /-- `>`: only exceeding it fires -/
  | exceeding
  deriving DecidableEq, Repr

/-- `ROT_CMP` = `>=` (decision D5). -/
def rotCmp : RotCmp := .reaching
/-- `ROT_CW`, the clockwise transitions of `(a << 1) | b` (decision D6). -/
def rotCw : List (BitVec 2 × BitVec 2) := [(0b00, 0b01), (0b01, 0b11), (0b11, 0b10), (0b10, 0b00)]
/-- `M_R1` = 8 (source). -/
def mR1 : Nat := 8
/-- `M_R2` = 4 (source). -/
def mR2 : Nat := 4
/-- `ACT_THRESHOLD` = 50, strictly greater lights (source). -/
def actThreshold : Nat := 50
/-- `EDGE_RESET` = false (decision D18). -/
def edgeReset : Bool := false
/-- `START_REQUIRES_HALT` = true (decision D20). -/
def startRequiresHalt : Bool := true
/-- `START_HALT_LEVEL` = false, the HALT position (decision D24). -/
def startHaltLevel : Bool := false

/-- A map of the quadrature inputs to columns of switch row 2. -/
structure RotPinmap where
  q1a : Nat
  q1b : Nat
  q2a : Nat
  q2b : Nat
  deriving DecidableEq, Repr

/-- `ROT_PINMAP` (decision D7). -/
def rotPinmap : RotPinmap := { q1a := 8, q1b := 9, q2a := 10, q2b := 11 }

/-- A map of the push-buttons to columns of switch row 1. -/
structure BtnPinmap where
  r1Button : Nat
  r2Button : Nat
  deriving DecidableEq, Repr

/-- `BTN_PINMAP` (decision D8). -/
def btnPinmap : BtnPinmap := { r1Button := 10, r2Button := 11 }

/-- The status flags of LED row 2. -/
inductive StatusFlag where
  | addr22
  | addr18
  | addr16
  | data
  | kernel
  | super
  | user
  | master
  | pause
  | run
  | addrErr
  | parErr
  deriving DecidableEq, Repr

/-- `LED_STATUS_ORDER`: the flag shown at each column of LED row 2, column 0 first (decision D11,
spec/30_encoding.md R101). -/
def ledStatusOrder : List StatusFlag :=
  [.addr22, .addr18, .addr16, .data, .kernel, .super, .user, .master, .pause, .run, .addrErr, .parErr]

/-- `RESULT_CODE`: the codes of the session results, two bits (decision D35, spec/30_encoding.md R119). -/
def resultCode : SessionResult → BitVec 2
  | .exit => 0
  | .restart => 1
  | .reload => 2

/-- The fixed waits of FPC (spec/60_exceptions.md R332). -/
inductive Delay where
  | settle
  | modePause
  | blank
  | vis
  | idle
  deriving DecidableEq, Repr

/-- `T_SETTLE` in µs: at least 10, taken at its default (decision D4, log 23). -/
def tSettle : Nat := 50
/-- `T_BLANK` in µs (source, approximate). -/
def tBlank : Nat := 100
/-- `T_VIS` in µs (source, approximate). -/
def tVis : Nat := 1500
/-- `T_MODE_PAUSE` - 1 and `T_IDLE` - 1 in µs: OPEN, the delays are greater than 0 (decision D4, log 11). -/
opaque modePauseExtra : Nat
opaque idleExtra : Nat
/-- `T_MODE_PAUSE` in µs. -/
def tModePause : Nat := modePauseExtra + 1
/-- `T_IDLE` in µs. -/
def tIdle : Nat := idleExtra + 1
/-- `T_SNAP`: OPEN; it belongs to the simulator and no rule of FPC reads it (R332). -/
opaque tSnap : Nat

/-- The least length of each wait in µs (spec/70_reset_and_hazards.md R370; log 23). -/
def delayUs : Delay → Nat
  | .settle => tSettle
  | .modePause => tModePause
  | .blank => tBlank
  | .vis => tVis
  | .idle => tIdle

/-- `ACT_DEPTH`: OPEN; activity counts lie in 0..`ACT_DEPTH` (decision D38). -/
opaque actDepth : Nat
/-- `W_PC` - 22: OPEN, `W_PC` is at least 22, its default is 32 (decision D28). -/
opaque wPcExtra : Nat
/-- `W_PC`. -/
def wPc : Nat := 22 + wPcExtra
/-- `SIM_WORD_SIZE`: OPEN (decision D29). -/
opaque simWordSize : Nat
/-- `PC_REG_NAME`: OPEN (decision D31). -/
opaque pcRegName : String

/-- `AUX_STATUS`: the `n`-th free value of the six status flags no passage derives (R24, R266; log 10). -/
opaque auxStatus : Nat → AuxFlags
/-- The `n`-th free value: the port registers after a failed SCAN or DRIVE (spec/93_implementation_defined.md U7;
log 9). -/
opaque freePorts : Nat → Ports
/-- The row index at which a failed SCAN or DRIVE stopped (log 9). -/
opaque freeScanRow : Nat → Fin nSwRow
opaque freeLedRow : Nat → Fin nLedRow
/-- What SimHalted() answers when the environment has prepared no answer (R68; log 5). -/
opaque freeHalted : Nat → Bool
/-- What MemRead answers when none is prepared: whether it succeeds, and the word (R64; log 5). -/
opaque freeReadOk : Nat → Bool
opaque freeReadWord : Nat → Word
/-- Whether MemWrite and SimSetReg succeed when no answer is prepared (R65, R66; log 5). -/
opaque freeWriteOk : Nat → Bool
opaque freeSetRegOk : Nat → Bool
/-- What the environment gives an iteration for which the agenda holds no inputs (log 1). -/
opaque freeStimulus : Nat → Stimulus

end Sys2Proof.Config
end

