-- ==== Sys2Proof/Syntax.lean ====
section
/-! DEFINITION. The syntax: one constructor for each row of spec/opcode_table.json (spec/30_encoding.md R90, R125),
in the table's order. -/

namespace Sys2Proof

/-- The formats of code words that have an encoding (R90, R125). -/
inductive Format where
  | sw
  | led
  | qt
  | ksu
  | rsel
  | ev
  | ksu16
  | phase
  | result
  deriving DecidableEq, Repr

/-- The code points and operations of FPC. -/
inductive Instr where
  -- Format SW: the cells of the switch matrix (R92 to R96).
  | swSr0
  | swSr1
  | swSr2
  | swSr3
  | swSr4
  | swSr5
  | swSr6
  | swSr7
  | swSr8
  | swSr9
  | swSr10
  | swSr11
  | swSr12
  | swSr13
  | swSr14
  | swSr15
  | swSr16
  | swSr17
  | swSr18
  | swSr19
  | swSr20
  | swSr21
  | swR1Button
  | swR2Button
  | swTest
  | swLoadAddr
  | swExam
  | swDep
  | swCont
  | swEnableHalt
  | swSinstSbusCycle
  | swStart
  | swQ1a
  | swQ1b
  | swQ2a
  | swQ2b
  -- Format LED: the cells of the LED grid (R98 to R106).
  | ledAddrbit0
  | ledAddrbit1
  | ledAddrbit2
  | ledAddrbit3
  | ledAddrbit4
  | ledAddrbit5
  | ledAddrbit6
  | ledAddrbit7
  | ledAddrbit8
  | ledAddrbit9
  | ledAddrbit10
  | ledAddrbit11
  | ledAddrbit12
  | ledAddrbit13
  | ledAddrbit14
  | ledAddrbit15
  | ledAddrbit16
  | ledAddrbit17
  | ledAddrbit18
  | ledAddrbit19
  | ledAddrbit20
  | ledAddrbit21
  | ledUnused1At10
  | ledUnused1At11
  | ledFlagAddr22
  | ledFlagAddr18
  | ledFlagAddr16
  | ledFlagData
  | ledFlagKernel
  | ledFlagSuper
  | ledFlagUser
  | ledFlagMaster
  | ledFlagPause
  | ledFlagRun
  | ledFlagAddrErr
  | ledFlagParErr
  | ledData0
  | ledData1
  | ledData2
  | ledData3
  | ledData4
  | ledData5
  | ledData6
  | ledData7
  | ledData8
  | ledData9
  | ledData10
  | ledData11
  | ledData12
  | ledData13
  | ledData14
  | ledData15
  | ledParLow
  | ledParHigh
  | ledR1Pos0
  | ledR1Pos1
  | ledR1Pos2
  | ledR1Pos3
  | ledR1Pos4
  | ledR1Pos5
  | ledR1Pos6
  | ledR1Pos7
  | ledR2Pos0
  | ledR2Pos1
  | ledR2Pos2
  | ledR2Pos3
  | ledUnused5At0
  | ledUnused5At1
  | ledUnused5At2
  | ledUnused5At3
  | ledUnused5At4
  | ledUnused5At5
  -- Format QT: quadrature transitions (R108 to R111).
  | qtRepeat0000
  | qtCw0001
  | qtCcw0010
  | qtJump0011
  | qtCcw0100
  | qtRepeat0101
  | qtJump0110
  | qtCw0111
  | qtCw1000
  | qtJump1001
  | qtRepeat1010
  | qtCcw1011
  | qtJump1100
  | qtCcw1101
  | qtCw1110
  | qtRepeat1111
  -- Format KSU: PSW bits 15:14 (R112).
  | ksuMode0
  | ksuMode1
  | ksuMode2
  | ksuMode3
  -- Format KSU16: the whole PSW (R113).
  | ksuPswZero
  -- Format RSEL: the register selector (R114).
  | rselR0
  | rselR1
  | rselR2
  | rselR3
  | rselR4
  | rselR5
  | rselSp
  | rselPc
  -- Format EV: console-command events (R116, R117); `h` is the unexamined run-state bit.
  | loadAddr
  | exam
  | dep
  | cont (h : Bool)
  | halt
  | enable
  | start
  | reload (h : Bool)
  | restart (h : Bool)
  | test (h : Bool)
  -- Format PHASE: the phases of the sequencer (R120).
  | phaseStopchk
  | phaseScan
  | phaseDecode
  | phaseFeed
  | phaseControl
  | phaseEncode
  | phaseDrive
  | phaseDone
  -- Format RESULT: the session results (R119).
  | resultExit
  | resultRestart
  | resultReload
  -- Format OP: the operations no code word selects (R125), with the operands their rules give them.
  | iter
  | control
  | haltchk (scanOk : Bool)
  | sessionEnd
  | edgeSample (k : Fin 9) (current : Bool)
  | rotAddDelta (n : RotaryId) (a b : Bool)
  | scan
  | decode (raw : SwitchMatrix)
  | encode (act : Option Activity)
  | drive (grid : LedGrid)
  | deriveKsu (S : Snapshot)
  | deriveAddr (S : Snapshot) (h : Bool)
  | deriveBlink (h : Bool)
  | deriveData (S : Snapshot) (h : Bool)
  | regsel (S : Snapshot) (k : BitVec 3)
  | deriveRange (S : Snapshot)
  | deriveParity
  | deriveAux (S : Snapshot) (h : Bool)
  | snapTake
  deriving DecidableEq, Repr

end Sys2Proof
end

