-- ==== Sys2Proof/Decode.lean ====
section
/-! DEFINITION. The decoder of the code words of spec/30_encoding.md (R90 to R125), total, rejecting by name; after it
the encoder, written from the same tables. -/

namespace Sys2Proof

/-- Why a code word selects no row. -/
inductive DecodeError where
  /-- the word does not fit the format's width -/
  | tooWide
  /-- SW and LED code points outside the matrices: they cannot occur (R90, R123) -/
  | impossibleCell
  /-- an event that selects no command and changes nothing (R118) -/
  | noCommand
  /-- a PSW that is not zero does not select KSU.PSW_ZERO (R113) -/
  | pswNotZero
  /-- the fourth 2-bit code is no session result (R119) -/
  | noResult
  /-- no format has code words of this many bits, or the word does not fit them -/
  | noFormat
  deriving DecidableEq, Repr

/-- How many bits a code word of the format has (R90, R125). -/
def formatWidth : Format → Nat
  | .sw => 6
  | .led => 7
  | .qt => 4
  | .ksu => 2
  | .rsel => 3
  | .ev => 8
  | .ksu16 => 16
  | .phase => 3
  | .result => 2

/-- The code word of the cell at row `r` and column `c` of a matrix: `rrcccc` or `rrrcccc` (R92, R98). -/
def cellWord (r c : Nat) : Nat := 16 * r + c

/-- The column of LED row 2 that shows a status flag under `LED_STATUS_ORDER` (R101). -/
def statusColumn (f : Config.StatusFlag) : Nat := Config.ledStatusOrder.idxOf f

/-! The rows of the opcode table whose cell is a parameter (`ROT_PINMAP`, `BTN_PINMAP`, `LED_STATUS_ORDER`) have the
word of the cell the parameter gives, and the rows of format RESULT the code `RESULT_CODE` gives; under the defaults
these are the table's words. -/

/-- Format SW, `rrcccc` (R92 to R96); piece 1. -/
def swTable1 : List (Nat × Instr) :=
  [(0x00, .swSr0), (0x01, .swSr1), (0x02, .swSr2), (0x03, .swSr3), (0x04, .swSr4), (0x05, .swSr5), (0x06, .swSr6),
    (0x07, .swSr7), (0x08, .swSr8), (0x09, .swSr9), (0x0A, .swSr10), (0x0B, .swSr11)]

/-- Format SW, `rrcccc` (R92 to R96); piece 2. -/
def swTable2 : List (Nat × Instr) :=
  [(0x10, .swSr12), (0x11, .swSr13), (0x12, .swSr14), (0x13, .swSr15), (0x14, .swSr16), (0x15, .swSr17),
    (0x16, .swSr18), (0x17, .swSr19), (0x18, .swSr20), (0x19, .swSr21),
    (cellWord 1 Config.btnPinmap.r1Button, .swR1Button), (cellWord 1 Config.btnPinmap.r2Button, .swR2Button)]

/-- Format SW, `rrcccc` (R92 to R96); piece 3. -/
def swTable3 : List (Nat × Instr) :=
  [(0x20, .swTest), (0x21, .swLoadAddr), (0x22, .swExam), (0x23, .swDep), (0x24, .swCont), (0x25, .swEnableHalt),
    (0x26, .swSinstSbusCycle), (0x27, .swStart), (cellWord 2 Config.rotPinmap.q1a, .swQ1a),
    (cellWord 2 Config.rotPinmap.q1b, .swQ1b), (cellWord 2 Config.rotPinmap.q2a, .swQ2a),
    (cellWord 2 Config.rotPinmap.q2b, .swQ2b)]

/-- Format SW, `rrcccc` (R92 to R96). -/
def swTable : List (Nat × Instr) :=
  swTable1 ++ swTable2 ++ swTable3

/-- Format LED, `rrrcccc` (R98 to R106); piece 1. -/
def ledTable1 : List (Nat × Instr) :=
  [(0x00, .ledAddrbit0), (0x01, .ledAddrbit1), (0x02, .ledAddrbit2), (0x03, .ledAddrbit3), (0x04, .ledAddrbit4),
    (0x05, .ledAddrbit5), (0x06, .ledAddrbit6), (0x07, .ledAddrbit7), (0x08, .ledAddrbit8), (0x09, .ledAddrbit9),
    (0x0A, .ledAddrbit10), (0x0B, .ledAddrbit11)]

/-- Format LED, `rrrcccc` (R98 to R106); piece 2. -/
def ledTable2 : List (Nat × Instr) :=
  [(0x10, .ledAddrbit12), (0x11, .ledAddrbit13), (0x12, .ledAddrbit14), (0x13, .ledAddrbit15), (0x14, .ledAddrbit16),
    (0x15, .ledAddrbit17), (0x16, .ledAddrbit18), (0x17, .ledAddrbit19), (0x18, .ledAddrbit20),
    (0x19, .ledAddrbit21), (0x1A, .ledUnused1At10), (0x1B, .ledUnused1At11)]

/-- Format LED, `rrrcccc` (R98 to R106); piece 3. -/
def ledTable3 : List (Nat × Instr) :=
  [(cellWord 2 (statusColumn .addr22), .ledFlagAddr22), (cellWord 2 (statusColumn .addr18), .ledFlagAddr18),
    (cellWord 2 (statusColumn .addr16), .ledFlagAddr16), (cellWord 2 (statusColumn .data), .ledFlagData),
    (cellWord 2 (statusColumn .kernel), .ledFlagKernel), (cellWord 2 (statusColumn .super), .ledFlagSuper),
    (cellWord 2 (statusColumn .user), .ledFlagUser), (cellWord 2 (statusColumn .master), .ledFlagMaster),
    (cellWord 2 (statusColumn .pause), .ledFlagPause), (cellWord 2 (statusColumn .run), .ledFlagRun),
    (cellWord 2 (statusColumn .addrErr), .ledFlagAddrErr), (cellWord 2 (statusColumn .parErr), .ledFlagParErr)]

/-- Format LED, `rrrcccc` (R98 to R106); piece 4. -/
def ledTable4 : List (Nat × Instr) :=
  [(0x30, .ledData0), (0x31, .ledData1), (0x32, .ledData2), (0x33, .ledData3), (0x34, .ledData4), (0x35, .ledData5),
    (0x36, .ledData6), (0x37, .ledData7), (0x38, .ledData8), (0x39, .ledData9), (0x3A, .ledData10),
    (0x3B, .ledData11)]

/-- Format LED, `rrrcccc` (R98 to R106); piece 5. -/
def ledTable5 : List (Nat × Instr) :=
  [(0x40, .ledData12), (0x41, .ledData13), (0x42, .ledData14), (0x43, .ledData15), (0x44, .ledParLow),
    (0x45, .ledParHigh), (0x46, .ledR1Pos0), (0x47, .ledR1Pos1), (0x48, .ledR1Pos2), (0x49, .ledR1Pos3),
    (0x56, .ledR1Pos4), (0x57, .ledR1Pos5)]

/-- Format LED, `rrrcccc` (R98 to R106); piece 6. -/
def ledTable6 : List (Nat × Instr) :=
  [(0x58, .ledR1Pos6), (0x59, .ledR1Pos7), (0x4A, .ledR2Pos0), (0x4B, .ledR2Pos1), (0x5A, .ledR2Pos2),
    (0x5B, .ledR2Pos3), (0x50, .ledUnused5At0), (0x51, .ledUnused5At1), (0x52, .ledUnused5At2),
    (0x53, .ledUnused5At3), (0x54, .ledUnused5At4), (0x55, .ledUnused5At5)]

/-- Format LED, `rrrcccc` (R98 to R106). -/
def ledTable : List (Nat × Instr) :=
  ledTable1 ++ ledTable2 ++ ledTable3 ++ ledTable4 ++ ledTable5 ++ ledTable6

/-- Format QT, `ppnn` (R108 to R111); piece 1. -/
def qtTable1 : List (Nat × Instr) :=
  [(0x00, .qtRepeat0000), (0x01, .qtCw0001), (0x02, .qtCcw0010), (0x03, .qtJump0011), (0x04, .qtCcw0100),
    (0x05, .qtRepeat0101), (0x06, .qtJump0110), (0x07, .qtCw0111), (0x08, .qtCw1000), (0x09, .qtJump1001),
    (0x0A, .qtRepeat1010), (0x0B, .qtCcw1011)]

/-- Format QT, `ppnn` (R108 to R111); piece 2. -/
def qtTable2 : List (Nat × Instr) :=
  [(0x0C, .qtJump1100), (0x0D, .qtCcw1101), (0x0E, .qtCw1110), (0x0F, .qtRepeat1111)]

/-- Format QT, `ppnn` (R108 to R111). -/
def qtTable : List (Nat × Instr) :=
  qtTable1 ++ qtTable2

/-- Format KSU, `mm` (R112). -/
def ksuTable : List (Nat × Instr) :=
  [(0x00, .ksuMode0), (0x01, .ksuMode1), (0x02, .ksuMode2), (0x03, .ksuMode3)]

/-- Format RSEL, `sss` (R114). -/
def rselTable : List (Nat × Instr) :=
  [(0x00, .rselR0), (0x01, .rselR1), (0x02, .rselR2), (0x03, .rselR3), (0x04, .rselR4), (0x05, .rselR5),
    (0x06, .rselSp), (0x07, .rselPc)]

/-- Format PHASE (R120). -/
def phaseTable : List (Nat × Instr) :=
  [(0x00, .phaseStopchk), (0x01, .phaseScan), (0x02, .phaseDecode), (0x03, .phaseFeed), (0x04, .phaseControl),
    (0x05, .phaseEncode), (0x06, .phaseDrive), (0x07, .phaseDone)]

/-- The code word of a session result under `RESULT_CODE` (R119). -/
def resultWord (r : SessionResult) : Nat := (Config.resultCode r).toNat

/-- Format RESULT (R119). -/
def resultTable : List (Nat × Instr) :=
  [(resultWord .exit, .resultExit), (resultWord .restart, .resultRestart), (resultWord .reload, .resultReload)]

/-- The row of a table whose code word is `w`, or the error. -/
def lookupRow (table : List (Nat × Instr)) (e : DecodeError) (w : Nat) : Except DecodeError Instr :=
  match table.lookup w with
  | some i => .ok i
  | none => .error e

/-- Format EV, `hprrcccc`: the ten commands by match and mask (R117). Where the mask is 0x7F the bit `h` is not
examined and is kept as the constructor's operand. RELOAD and RESTART are the rising edges of the cells `BTN_PINMAP`
gives. START examines `h` when `START_REQUIRES_HALT` (R232). -/
def decodeEvent (w : Nat) : Except DecodeError Instr :=
  let h := w.testBit 7
  let e := w % 128
  if e = 0x21 then if h then .ok .loadAddr else .error .noCommand
  else if e = 0x22 then if h then .ok .exam else .error .noCommand
  else if e = 0x23 then if h then .ok .dep else .error .noCommand
  else if e = 0x24 then .ok (.cont h)
  else if e = 0x25 then if h then .error .noCommand else .ok .halt
  else if e = 0x65 then if h then .ok .enable else .error .noCommand
  else if e = 0x27 then if h || !Config.startRequiresHalt then .ok .start else .error .noCommand
  else if e = 0x40 + cellWord 1 Config.btnPinmap.r1Button then .ok (.reload h)
  else if e = 0x40 + cellWord 1 Config.btnPinmap.r2Button then .ok (.restart h)
  else if e = 0x60 then .ok (.test h)
  else .error .noCommand

/-- The decoder: the row a code word of a given format selects. -/
def decode (f : Format) (w : Nat) : Except DecodeError Instr :=
  if 2 ^ formatWidth f ≤ w then .error .tooWide
  else
    match f with
    | .sw => lookupRow swTable .impossibleCell w
    | .led => lookupRow ledTable .impossibleCell w
    | .qt => lookupRow qtTable .impossibleCell w
    | .ksu => lookupRow ksuTable .impossibleCell w
    | .rsel => lookupRow rselTable .impossibleCell w
    | .ev => decodeEvent w
    | .ksu16 => if w = 0 then .ok .ksuPswZero else .error .pswNotZero
    | .phase => lookupRow phaseTable .impossibleCell w
    | .result => lookupRow resultTable .noResult w

/-- The first format of a list in which the word selects a row. -/
def firstRow (fs : List Format) (e : DecodeError) (w : Nat) : Except DecodeError Instr :=
  match fs with
  | [] => .error e
  | f :: rest =>
    match decode f w with
    | .ok i => .ok i
    | .error _ => firstRow rest e w

/-- The formats a word of `nbits` bits can be in, in the order they are tried. FPC stores no code word and which format
a word is in is fixed by where it is used (R90), so a word given with a whole number of bytes does not tell its
format: DESIGN CHOICE (log 3), the only 8-bit format first, then the narrowest format that has the word. -/
def formatsOf (nbits : Nat) : List Format :=
  match nbits with
  | 2 => [.result, .ksu]
  | 3 => [.phase, .rsel]
  | 4 => [.qt]
  | 6 => [.sw]
  | 7 => [.led]
  | 8 => [.ev, .result, .ksu, .phase, .rsel, .qt, .sw, .led]
  | 16 => [.ksu16, .ev, .result, .ksu, .phase, .rsel, .qt, .sw, .led]
  | _ => []

/-- The row a word of `nbits` bits selects. An event code word that no row matches is an event that selects no command
(R118). -/
def decodeWord (nbits w : Nat) : Except DecodeError Instr :=
  firstRow (formatsOf nbits)
    (if (nbits = 8 ∨ nbits = 16) ∧ w < 256 then .noCommand else .noFormat) w

/-- The instruction the decoder reads from a word of `nbits` bits, numbered as spec/opcode_table.json numbers them. -/
def decodeTableWord (nbits w : Nat) : Option Instr :=
  match decodeWord nbits w with
  | .ok i => some i
  | .error _ => none

/-- The bit `h` of an event code word. -/
def haltedBit (h : Bool) : Nat := if h then 0x80 else 0

/-- The encoder: the format and the code word of a row; `none` for the operations no code word selects (R125). -/
def encode (i : Instr) : Option (Format × Nat) :=
  match i with
  | .swSr0 => some (.sw, 0x00)
  | .swSr1 => some (.sw, 0x01)
  | .swSr2 => some (.sw, 0x02)
  | .swSr3 => some (.sw, 0x03)
  | .swSr4 => some (.sw, 0x04)
  | .swSr5 => some (.sw, 0x05)
  | .swSr6 => some (.sw, 0x06)
  | .swSr7 => some (.sw, 0x07)
  | .swSr8 => some (.sw, 0x08)
  | .swSr9 => some (.sw, 0x09)
  | .swSr10 => some (.sw, 0x0A)
  | .swSr11 => some (.sw, 0x0B)
  | .swSr12 => some (.sw, 0x10)
  | .swSr13 => some (.sw, 0x11)
  | .swSr14 => some (.sw, 0x12)
  | .swSr15 => some (.sw, 0x13)
  | .swSr16 => some (.sw, 0x14)
  | .swSr17 => some (.sw, 0x15)
  | .swSr18 => some (.sw, 0x16)
  | .swSr19 => some (.sw, 0x17)
  | .swSr20 => some (.sw, 0x18)
  | .swSr21 => some (.sw, 0x19)
  | .swR1Button => some (.sw, cellWord 1 Config.btnPinmap.r1Button)
  | .swR2Button => some (.sw, cellWord 1 Config.btnPinmap.r2Button)
  | .swTest => some (.sw, 0x20)
  | .swLoadAddr => some (.sw, 0x21)
  | .swExam => some (.sw, 0x22)
  | .swDep => some (.sw, 0x23)
  | .swCont => some (.sw, 0x24)
  | .swEnableHalt => some (.sw, 0x25)
  | .swSinstSbusCycle => some (.sw, 0x26)
  | .swStart => some (.sw, 0x27)
  | .swQ1a => some (.sw, cellWord 2 Config.rotPinmap.q1a)
  | .swQ1b => some (.sw, cellWord 2 Config.rotPinmap.q1b)
  | .swQ2a => some (.sw, cellWord 2 Config.rotPinmap.q2a)
  | .swQ2b => some (.sw, cellWord 2 Config.rotPinmap.q2b)
  | .ledAddrbit0 => some (.led, 0x00)
  | .ledAddrbit1 => some (.led, 0x01)
  | .ledAddrbit2 => some (.led, 0x02)
  | .ledAddrbit3 => some (.led, 0x03)
  | .ledAddrbit4 => some (.led, 0x04)
  | .ledAddrbit5 => some (.led, 0x05)
  | .ledAddrbit6 => some (.led, 0x06)
  | .ledAddrbit7 => some (.led, 0x07)
  | .ledAddrbit8 => some (.led, 0x08)
  | .ledAddrbit9 => some (.led, 0x09)
  | .ledAddrbit10 => some (.led, 0x0A)
  | .ledAddrbit11 => some (.led, 0x0B)
  | .ledAddrbit12 => some (.led, 0x10)
  | .ledAddrbit13 => some (.led, 0x11)
  | .ledAddrbit14 => some (.led, 0x12)
  | .ledAddrbit15 => some (.led, 0x13)
  | .ledAddrbit16 => some (.led, 0x14)
  | .ledAddrbit17 => some (.led, 0x15)
  | .ledAddrbit18 => some (.led, 0x16)
  | .ledAddrbit19 => some (.led, 0x17)
  | .ledAddrbit20 => some (.led, 0x18)
  | .ledAddrbit21 => some (.led, 0x19)
  | .ledUnused1At10 => some (.led, 0x1A)
  | .ledUnused1At11 => some (.led, 0x1B)
  | .ledFlagAddr22 => some (.led, cellWord 2 (statusColumn .addr22))
  | .ledFlagAddr18 => some (.led, cellWord 2 (statusColumn .addr18))
  | .ledFlagAddr16 => some (.led, cellWord 2 (statusColumn .addr16))
  | .ledFlagData => some (.led, cellWord 2 (statusColumn .data))
  | .ledFlagKernel => some (.led, cellWord 2 (statusColumn .kernel))
  | .ledFlagSuper => some (.led, cellWord 2 (statusColumn .super))
  | .ledFlagUser => some (.led, cellWord 2 (statusColumn .user))
  | .ledFlagMaster => some (.led, cellWord 2 (statusColumn .master))
  | .ledFlagPause => some (.led, cellWord 2 (statusColumn .pause))
  | .ledFlagRun => some (.led, cellWord 2 (statusColumn .run))
  | .ledFlagAddrErr => some (.led, cellWord 2 (statusColumn .addrErr))
  | .ledFlagParErr => some (.led, cellWord 2 (statusColumn .parErr))
  | .ledData0 => some (.led, 0x30)
  | .ledData1 => some (.led, 0x31)
  | .ledData2 => some (.led, 0x32)
  | .ledData3 => some (.led, 0x33)
  | .ledData4 => some (.led, 0x34)
  | .ledData5 => some (.led, 0x35)
  | .ledData6 => some (.led, 0x36)
  | .ledData7 => some (.led, 0x37)
  | .ledData8 => some (.led, 0x38)
  | .ledData9 => some (.led, 0x39)
  | .ledData10 => some (.led, 0x3A)
  | .ledData11 => some (.led, 0x3B)
  | .ledData12 => some (.led, 0x40)
  | .ledData13 => some (.led, 0x41)
  | .ledData14 => some (.led, 0x42)
  | .ledData15 => some (.led, 0x43)
  | .ledParLow => some (.led, 0x44)
  | .ledParHigh => some (.led, 0x45)
  | .ledR1Pos0 => some (.led, 0x46)
  | .ledR1Pos1 => some (.led, 0x47)
  | .ledR1Pos2 => some (.led, 0x48)
  | .ledR1Pos3 => some (.led, 0x49)
  | .ledR1Pos4 => some (.led, 0x56)
  | .ledR1Pos5 => some (.led, 0x57)
  | .ledR1Pos6 => some (.led, 0x58)
  | .ledR1Pos7 => some (.led, 0x59)
  | .ledR2Pos0 => some (.led, 0x4A)
  | .ledR2Pos1 => some (.led, 0x4B)
  | .ledR2Pos2 => some (.led, 0x5A)
  | .ledR2Pos3 => some (.led, 0x5B)
  | .ledUnused5At0 => some (.led, 0x50)
  | .ledUnused5At1 => some (.led, 0x51)
  | .ledUnused5At2 => some (.led, 0x52)
  | .ledUnused5At3 => some (.led, 0x53)
  | .ledUnused5At4 => some (.led, 0x54)
  | .ledUnused5At5 => some (.led, 0x55)
  | .qtRepeat0000 => some (.qt, 0x00)
  | .qtCw0001 => some (.qt, 0x01)
  | .qtCcw0010 => some (.qt, 0x02)
  | .qtJump0011 => some (.qt, 0x03)
  | .qtCcw0100 => some (.qt, 0x04)
  | .qtRepeat0101 => some (.qt, 0x05)
  | .qtJump0110 => some (.qt, 0x06)
  | .qtCw0111 => some (.qt, 0x07)
  | .qtCw1000 => some (.qt, 0x08)
  | .qtJump1001 => some (.qt, 0x09)
  | .qtRepeat1010 => some (.qt, 0x0A)
  | .qtCcw1011 => some (.qt, 0x0B)
  | .qtJump1100 => some (.qt, 0x0C)
  | .qtCcw1101 => some (.qt, 0x0D)
  | .qtCw1110 => some (.qt, 0x0E)
  | .qtRepeat1111 => some (.qt, 0x0F)
  | .ksuMode0 => some (.ksu, 0x00)
  | .ksuMode1 => some (.ksu, 0x01)
  | .ksuMode2 => some (.ksu, 0x02)
  | .ksuMode3 => some (.ksu, 0x03)
  | .ksuPswZero => some (.ksu16, 0x00)
  | .rselR0 => some (.rsel, 0x00)
  | .rselR1 => some (.rsel, 0x01)
  | .rselR2 => some (.rsel, 0x02)
  | .rselR3 => some (.rsel, 0x03)
  | .rselR4 => some (.rsel, 0x04)
  | .rselR5 => some (.rsel, 0x05)
  | .rselSp => some (.rsel, 0x06)
  | .rselPc => some (.rsel, 0x07)
  | .loadAddr => some (.ev, 0xA1)
  | .exam => some (.ev, 0xA2)
  | .dep => some (.ev, 0xA3)
  | .cont h => some (.ev, 0x24 + haltedBit h)
  | .halt => some (.ev, 0x25)
  | .enable => some (.ev, 0xE5)
  | .start => some (.ev, 0xA7)
  | .reload h => some (.ev, 0x40 + cellWord 1 Config.btnPinmap.r1Button + haltedBit h)
  | .restart h => some (.ev, 0x40 + cellWord 1 Config.btnPinmap.r2Button + haltedBit h)
  | .test h => some (.ev, 0x60 + haltedBit h)
  | .phaseStopchk => some (.phase, 0x00)
  | .phaseScan => some (.phase, 0x01)
  | .phaseDecode => some (.phase, 0x02)
  | .phaseFeed => some (.phase, 0x03)
  | .phaseControl => some (.phase, 0x04)
  | .phaseEncode => some (.phase, 0x05)
  | .phaseDrive => some (.phase, 0x06)
  | .phaseDone => some (.phase, 0x07)
  | .resultExit => some (.result, resultWord .exit)
  | .resultRestart => some (.result, resultWord .restart)
  | .resultReload => some (.result, resultWord .reload)
  | .iter => none
  | .control => none
  | .haltchk _ => none
  | .sessionEnd => none
  | .edgeSample _ _ => none
  | .rotAddDelta _ _ _ => none
  | .scan => none
  | .decode _ => none
  | .encode _ => none
  | .drive _ => none
  | .deriveKsu _ => none
  | .deriveAddr _ _ => none
  | .deriveBlink _ => none
  | .deriveData _ _ => none
  | .regsel _ _ => none
  | .deriveRange _ => none
  | .deriveParity => none
  | .deriveAux _ _ => none
  | .snapTake => none

end Sys2Proof
end

