-- ==== Sys2Proof/Machine/State.lean ====
section
/-! DEFINITION. The state of FPC (spec/10_state.md), the events of its output trace, its faults and refusals, and the
state after power-on reset (R53, R341). -/

namespace Sys2Proof.Machine

/-- The phases of the iteration (spec/10_state.md R45); `code` below gives their codes. -/
inductive Phase where
  | stopchk
  | scan
  | decode
  | feed
  | control
  | encode
  | drive
  | done
  deriving DecidableEq, Repr

/-- The phase codes (spec/30_encoding.md R120). -/
def Phase.code : Phase → BitVec 3
  | .stopchk => 0
  | .scan => 1
  | .decode => 2
  | .feed => 3
  | .control => 4
  | .encode => 5
  | .drive => 6
  | .done => 7

/-- One write or read of the panel lines (spec/42_switch_scan_decode.md R162, spec/43_light_encode_drive.md R195). -/
inductive LineEvent where
  | colDir (outputs : Bool)
  | swrow (v : BitVec Config.nSwRow)
  | colOut (v : Columns)
  | ledrow (v : BitVec Config.nLedRow)
  | readCols (v : Columns)
  deriving DecidableEq, Repr

/-- One call of a simulator primitive, with its operands and the answer it returned (spec/20_memory.md R64 to R68). -/
inductive SimCall where
  | read (addr : Addr) (size : Nat) (answer : ReadAnswer)
  | write (addr : Addr) (size : Nat) (data : Word) (answer : Ack)
  | setReg (name value : String) (answer : Ack)
  | halt
  | run
  | singleStep
  | halted (answer : Bool)
  deriving DecidableEq, Repr

/-- The phases of an iteration that can fail at the GPIO collaborator (spec/60_exceptions.md R301). -/
inductive IoPhase where
  | scan
  | drive
  deriving DecidableEq, Repr

/-- The commands whose primitive can fail (R302). -/
inductive SimCommand where
  | exam
  | dep
  | start
  deriving DecidableEq, Repr

/-- The failure classes FPC raises (R305). A failure is recorded; the iteration goes on. -/
inductive Failure where
  | io (p : IoPhase)
  | sim (c : SimCommand)
  deriving DecidableEq, Repr

/-- The levels of the logging collaborator (R333). -/
inductive LogLevel where
  | info
  | debug
  | error
  deriving DecidableEq, Repr

/-- What a log event is about; its text is no state (spec/92_eei_decisions.md D42; log 24). -/
inductive LogTopic where
  /-- the diagnostic of CONT, whose text depends on `PS.sw_sinst_sbus_cycle` (R226) -/
  | contDiagnostic (sinst : Bool)
  /-- the debug dump of TEST (R236) -/
  | testDump
  /-- a failed SCAN or DRIVE (R301) -/
  | ioFailure (p : IoPhase)
  deriving DecidableEq, Repr

/-- One entry of the output trace: what FPC does that its surroundings can see, in order (log 7). -/
inductive Event where
  | line (l : LineEvent)
  | wait (d : Config.Delay)
  | sim (c : SimCall)
  | failure (f : Failure)
  | log (level : LogLevel) (topic : LogTopic)
  /-- the unknown line operations of a failed SCAN or DRIVE and the levels they left (log 9) -/
  | linesUnknown (left : Ports)
  deriving DecidableEq, Repr

/-- PanelState (spec/10_state.md R21 to R30). -/
structure PanelState where
  address : Addr
  data : Word
  switchState : SwitchReg
  r1Position : BitVec 3
  r2Position : BitVec 2
  flagAddr16 : Bool
  flagAddr18 : Bool
  flagAddr22 : Bool
  flagKernel : Bool
  flagSuper : Bool
  flagUser : Bool
  flagParLow : Bool
  flagParHigh : Bool
  aux : AuxFlags
  swTest : Bool
  swLoadAddr : Bool
  swExam : Bool
  swDep : Bool
  swCont : Bool
  swEnableHalt : Bool
  swSinstSbusCycle : Bool
  swStart : Bool
  r1Button : Bool
  r2Button : Bool
  deriving DecidableEq, Repr

/-- One RotaryQuadratureDecoder instance (R36 to R38; log 22). -/
structure Rotary where
  lastState : BitVec 2
  acc : Int
  position : Nat
  deriving DecidableEq, Repr

/-- The values that live inside one iteration (R51, spec/46_iteration_sequencer.md R280, R283): no state of FPC, idle
whenever an ITER has ended (log 8). -/
structure Work where
  /-- the result `ok` of this iteration's SCAN -/
  scanOk : Bool
  /-- the raw matrix SCAN returned -/
  raw : SwitchMatrix
  /-- what DECODE returned -/
  switches : Switches
  /-- the delta of the last quadrature transition looked up -/
  delta : Int
  /-- `t`, whether a snapshot was taken -/
  taken : Bool
  /-- `S`, the snapshot values taken -/
  snap : Snapshot
  /-- `e[0..8]`, the outputs of the edge detectors -/
  edges : Vector Edge 9
  /-- the value REGSEL returned -/
  regValue : Word
  /-- the grid ENCODE returned -/
  grid : LedGrid
  /-- the result `ok` of DRIVE -/
  driveOk : Bool
  deriving DecidableEq, Repr

/-- The state of FPC and, below the comment, the fields that are the model's own (INVENTORY.md, State). -/
structure State where
  ps : PanelState
  consoleAddress : Addr
  dataLatched : Word
  useDataLatched : Bool
  /-- `ED[k].previous` -/
  ed : Vector Bool 9
  rot1 : Rotary
  rot2 : Rotary
  blinkActive : Bool
  actBuf : Activity
  /-- the snapshot mailbox `SNAP.*` -/
  snap : Snapshot
  snapReady : Bool
  keepRunning : Bool
  phase : Phase
  scanRow : Fin Config.nSwRow
  ledRow : Fin Config.nLedRow
  firstIter : Bool
  sessionResult : SessionResult
  ports : Ports
  /-- `COL_IN`: the level of each column line while each switch row is selected (R50) -/
  colIn : SwitchMatrix
  -- the model's own: the inputs `io_ok_scan` and `io_ok_drive`, what lands during a take, the prepared answers
  ioOkScan : Bool
  ioOkDrive : Bool
  midTake : Option MidTake
  answers : Answers
  -- the environment's script, the iteration's values, the output trace, the number of free values drawn
  agenda : List Input
  work : Work
  trace : List Event
  free : Nat
  deriving DecidableEq, Repr

/-- Why FPC stops. -/
inductive Fault where
  /-- A MemRead, MemWrite or SimSetReg never returns: the block is stuck, no further rule fires
  (spec/93_implementation_defined.md U16). Raised by EXAM, DEP and START. Safe. -/
  | primitiveNeverReturns
  deriving DecidableEq, Repr

/-- What the model does not define. -/
inductive Refusal where
  /-- An instruction that has no meaning yet. Raised by `exec` alone. Safe. -/
  | notModelled (mnemonic : String)
  /-- ITER, or the operation of one of its phases, in `P_DONE` (spec/93_implementation_defined.md U17). Safe. -/
  | iterWhileDone
  /-- A session start while a session runs (U17). Raised by `step`. Safe. -/
  | sessionStartWhileActive
  /-- An operation that calls simulator primitives when no session exists (U18). Safe. -/
  | noSession
  /-- A word on the model's code-word port that selects no row and is no event. Raised by `step`. Safe. -/
  | undecodable (nbits w : Nat)
  deriving DecidableEq, Repr

/-- A snapshot of zeros (log 13). -/
def zeroSnapshot : Snapshot :=
  { pc := 0, ir := 0, psw := 0, r := Vector.replicate 8 0, act := Vector.replicate Config.wAddr 0 }

/-- The idle value of an iteration's values (log 8). -/
def Work.idle : Work :=
  { scanOk := false
    raw := ⟨0, 0, 0⟩
    switches :=
      ⟨0, false, false, false, false, false, false, false, false, false, false, false, false, false, false⟩
    delta := 0
    taken := false
    snap := zeroSnapshot
    edges := Vector.replicate 9 ⟨false, false⟩
    regValue := 0
    grid := ⟨0, 0, 0, 0, 0, 0⟩
    driveOk := false }

/-- PanelState after a reset, the six underived flags given (R53, R342); the two positions are power-on's. -/
def PanelState.zero (aux : AuxFlags) : PanelState :=
  { address := 0, data := 0, switchState := 0, r1Position := 0, r2Position := 0
    flagAddr16 := false, flagAddr18 := false, flagAddr22 := false
    flagKernel := false, flagSuper := false, flagUser := false
    flagParLow := false, flagParHigh := false
    aux := aux
    swTest := false, swLoadAddr := false, swExam := false, swDep := false, swCont := false
    swEnableHalt := false, swSinstSbusCycle := false, swStart := false
    r1Button := false, r2Button := false }

/-- The machine right after power-on reset (spec/10_state.md R53, spec/70_reset_and_hazards.md R341; the values of log
12 to log 15 where the spec states none). -/
def State.reset : State :=
  { ps := PanelState.zero ⟨false, false, false, false, false, false⟩
    consoleAddress := 0
    dataLatched := 0
    useDataLatched := false
    ed := Vector.replicate 9 Config.edgeReset
    rot1 := { lastState := 0, acc := 0, position := 0 }
    rot2 := { lastState := 0, acc := 0, position := 0 }
    blinkActive := false
    actBuf := Vector.replicate Config.wAddr 0
    snap := zeroSnapshot
    snapReady := false
    keepRunning := true
    phase := .done
    scanRow := 0
    ledRow := 0
    firstIter := false
    sessionResult := .exit
    ports := Ports.idle
    colIn := ⟨0xFFF, 0xFFF, 0xFFF⟩
    ioOkScan := true
    ioOkDrive := true
    midTake := none
    answers := Answers.none
    agenda := []
    work := Work.idle
    trace := []
    free := 0 }

end Sys2Proof.Machine
end

