-- ==== Sys2Proof/Machine/Operands.lean ====
section
/-! DEFINITION. Every operand form of the spec: bits of a row, cells of the two matrices, the quadrature table, the
register selector, the monitored signals, event code words, decimal strings, torn snapshots. -/

namespace Sys2Proof.Machine

/-- `v` with bit `i` set to `b`; unchanged where `v` has no bit `i`. -/
def setBit {n : Nat} (v : BitVec n) (i : Nat) (b : Bool) : BitVec n :=
  if b then v ||| (1#n <<< i) else v &&& ~~~(1#n <<< i)

/-! ## The switch matrix (format SW) -/

/-- Where a cell of the switch matrix goes in what DECODE returns (R92 to R96). -/
inductive SwitchTarget where
  | sr (i : Nat)
  | r1Button
  | r2Button
  | swTest
  | swLoadAddr
  | swExam
  | swDep
  | swCont
  | swEnableHalt
  | swSinstSbusCycle
  | swStart
  | q1a
  | q1b
  | q2a
  | q2b
  deriving DecidableEq, Repr

/-- `raw[r][c]` (R11). -/
def rawCell (raw : SwitchMatrix) (r : Fin Config.nSwRow) (c : Nat) : Bool := (raw.row r).getLsbD c

/-- The decoded switches with one target replaced. -/
def setTarget (d : Switches) (t : SwitchTarget) (b : Bool) : Switches :=
  match t with
  | .sr i => { d with sr := setBit d.sr i b }
  | .r1Button => { d with r1Button := b }
  | .r2Button => { d with r2Button := b }
  | .swTest => { d with swTest := b }
  | .swLoadAddr => { d with swLoadAddr := b }
  | .swExam => { d with swExam := b }
  | .swDep => { d with swDep := b }
  | .swCont => { d with swCont := b }
  | .swEnableHalt => { d with swEnableHalt := b }
  | .swSinstSbusCycle => { d with swSinstSbusCycle := b }
  | .swStart => { d with swStart := b }
  | .q1a => { d with q1a := b }
  | .q1b => { d with q1b := b }
  | .q2a => { d with q2a := b }
  | .q2b => { d with q2b := b }

/-- The switch register assembled from rows 0 and 1 (R97): bit `c` is `raw[0][c]`, bit `N_COL + c` is `raw[1][c]`. -/
def assembleSr (raw : SwitchMatrix) : SwitchReg := raw.row1.extractLsb' 0 (Config.wSr - Config.nCol) ++ raw.row0

/-- DECODE under the given pin maps (R94, R96, R167, R168). -/
def decodeWith (rot : Config.RotPinmap) (btn : Config.BtnPinmap) (raw : SwitchMatrix) : Switches :=
  { sr := assembleSr raw
    r1Button := rawCell raw 1 btn.r1Button
    r2Button := rawCell raw 1 btn.r2Button
    swTest := rawCell raw 2 0
    swLoadAddr := rawCell raw 2 1
    swExam := rawCell raw 2 2
    swDep := rawCell raw 2 3
    swCont := rawCell raw 2 4
    swEnableHalt := rawCell raw 2 5
    swSinstSbusCycle := rawCell raw 2 6
    swStart := rawCell raw 2 7
    q1a := rawCell raw 2 rot.q1a
    q1b := rawCell raw 2 rot.q1b
    q2a := rawCell raw 2 rot.q2a
    q2b := rawCell raw 2 rot.q2b }

/-- DECODE as a pure function of the raw matrix, under `ROT_PINMAP` and `BTN_PINMAP` (R167, R168). -/
def decodeRaw (raw : SwitchMatrix) : Switches := decodeWith Config.rotPinmap Config.btnPinmap raw

/-- The word that selects switch row `r`: its line low, the others high (R162). -/
def selectRow (r : Fin Config.nSwRow) : BitVec Config.nSwRow := setBit swRowsHigh r.val false

/-! ## The LED grid (format LED) -/

/-- The lamp of address bit `i`: the bit of `PS.address`, or with an activity buffer whether its count exceeds
`ACT_THRESHOLD` (R99, R100). -/
def addressLamp (ps : PanelState) (act : Option Activity) (i : Nat) : Bool :=
  match act with
  | none => ps.address.getLsbD i
  | some a => decide (Config.actThreshold < a.getD i 0)

/-- A status flag of PanelState (R101). -/
def statusFlag (ps : PanelState) (f : Config.StatusFlag) : Bool :=
  match f with
  | .addr22 => ps.flagAddr22
  | .addr18 => ps.flagAddr18
  | .addr16 => ps.flagAddr16
  | .data => ps.aux.data
  | .kernel => ps.flagKernel
  | .super => ps.flagSuper
  | .user => ps.flagUser
  | .master => ps.aux.master
  | .pause => ps.aux.pause
  | .run => ps.aux.run
  | .addrErr => ps.aux.addrErr
  | .parErr => ps.aux.parErr

/-- The flag shown at column `c` of LED row 2 under the given order; a column with no flag is dark (R101). -/
def statusLamp (order : List Config.StatusFlag) (ps : PanelState) (c : Nat) : Bool :=
  match order[c]? with
  | some f => statusFlag ps f
  | none => false

/-- The lamp of rotary-1 position `p` (R104). -/
def rotary1Lamp (ps : PanelState) (p : Nat) : Bool := decide (ps.r1Position.toNat = p)

/-- The lamp of rotary-2 position `q` (R105). -/
def rotary2Lamp (ps : PanelState) (q : Nat) : Bool := decide (ps.r2Position.toNat = q)

/-- The source of LED cell `(r, c)` under the given order of the status flags (R98 to R106). -/
def ledCellWith (order : List Config.StatusFlag) (ps : PanelState) (act : Option Activity) (r : Fin Config.nLedRow)
    (c : Nat) : Bool :=
  match r with
  | 0 => addressLamp ps act c
  | 1 => if c < Config.wAddr - Config.nCol then addressLamp ps act (Config.nCol + c) else false
  | 2 => statusLamp order ps c
  | 3 => ps.data.getLsbD c
  | 4 =>
    if c < 4 then ps.data.getLsbD (Config.nCol + c)
    else if c = 4 then ps.flagParLow
    else if c = 5 then ps.flagParHigh
    else if c < 10 then rotary1Lamp ps (c - 6)
    else rotary2Lamp ps (c - 10)
  | 5 =>
    if c < 6 then false
    else if c < 10 then rotary1Lamp ps (4 + (c - 6))
    else rotary2Lamp ps (2 + (c - 10))

/-- The source of LED cell `(r, c)` under `LED_STATUS_ORDER`. -/
def ledCell (ps : PanelState) (act : Option Activity) (r : Fin Config.nLedRow) (c : Nat) : Bool :=
  ledCellWith Config.ledStatusOrder ps act r c

/-- Row `r` of the grid ENCODE returns. -/
def ledRowWord (ps : PanelState) (act : Option Activity) (r : Fin Config.nLedRow) : Columns :=
  BitVec.ofFnLE fun c => ledCell ps act r c.val

/-- ENCODE as a pure function of PanelState and the optional activity buffer (R180, R181). -/
def encodeGrid (ps : PanelState) (act : Option Activity) : LedGrid :=
  { row0 := ledRowWord ps act 0
    row1 := ledRowWord ps act 1
    row2 := ledRowWord ps act 2
    row3 := ledRowWord ps act 3
    row4 := ledRowWord ps act 4
    row5 := ledRowWord ps act 5 }

/-- The activity buffer ENCODE is given: `act_buf` while `blink_active`, none otherwise (R182, R285). -/
def shownActivity (s : State) : Option Activity := if s.blinkActive then some s.actBuf else none

/-- The column levels that show a grid row: active-low sinks (R107). -/
def columnLevels (row : Columns) : Columns := ~~~row

/-! ## Quadrature transitions (format QT) -/

/-- The quadrature state `(a << 1) | b` (R108). -/
def quadState (a b : Bool) : BitVec 2 := BitVec.ofBool a ++ BitVec.ofBool b

/-- The delta of the transition from `pp` to `nn` under the given set of clockwise transitions: they give +1, their
reverses -1, all others 0 (R109 to R111, R142). -/
def quadDeltaWith (cw : List (BitVec 2 × BitVec 2)) (pp nn : BitVec 2) : Int :=
  if (pp, nn) ∈ cw then 1 else if (nn, pp) ∈ cw then -1 else 0

/-- The delta of the transition from `pp` to `nn` under `ROT_CW`. -/
def quadDelta (pp nn : BitVec 2) : Int := quadDeltaWith Config.rotCw pp nn

/-- Whether `acc` fires against the threshold, in the given reading (R143). -/
def fires (cmp : Config.RotCmp) (sens acc : Int) : Bool :=
  match cmp with
  | .reaching => decide (sens ≤ acc)
  | .exceeding => decide (sens < acc)

/-- The modulus of a decoder (R39, R140). -/
def modulus : RotaryId → Nat
  | .rot1 => Config.mR1
  | .rot2 => Config.mR2

/-- The decoder after one ROT.ADD_DELTA with modulus `m` and a delta `d`, under the given comparison and threshold (R141
to R146): the new state is always stored; an accumulator that fires, upwards or downwards, moves the position and
becomes 0. -/
def rotaryStepWith (cmp : Config.RotCmp) (sens : Int) (m : Nat) (d : Int) (rot : Rotary) (s : BitVec 2) : Rotary :=
  let acc := rot.acc + d
  if fires cmp sens acc then
    { lastState := s, acc := 0, position := (rot.position + 1) % m }
  else if fires cmp sens (-acc) then
    { lastState := s, acc := 0, position := (rot.position + m - 1) % m }
  else
    { lastState := s, acc := acc, position := rot.position }

/-- The decoder after one ROT.ADD_DELTA with modulus `m`, under `ROT_CMP`, `ROT_SENS` and `ROT_CW`. -/
def rotaryStep (m : Nat) (rot : Rotary) (s : BitVec 2) : Rotary :=
  rotaryStepWith Config.rotCmp Config.rotSens m (quadDelta rot.lastState s) rot s

/-! ## The register selector (format RSEL) -/

/-- The general register `SNAP.R[k]`. -/
def snapReg (S : Snapshot) (k : BitVec 3) : RegWord := S.r[k.toNat]'(k.isLt)

/-- REGSEL(S, k): 7 gives `S.PC[15:0]`, 0 to 6 give `S.R[k]` (R114, R260). -/
def regSelect (S : Snapshot) (k : BitVec 3) : Word :=
  if k = 7#3 then BitVec.ofNat Config.wData S.pc else snapReg S k

/-- `trunc_22(S.PC)` (R254). -/
def pc22 (S : Snapshot) : Addr := BitVec.ofNat Config.wAddr S.pc

/-! ## Monitored signals and events (format EV) -/

/-- The PanelState flag instance `k` of the edge detectors monitors (R133). -/
def monitored (ps : PanelState) (k : Fin 9) : Bool :=
  match k with
  | 0 => ps.swTest
  | 1 => ps.swLoadAddr
  | 2 => ps.swExam
  | 3 => ps.swDep
  | 4 => ps.swCont
  | 5 => ps.swEnableHalt
  | 6 => ps.swStart
  | 7 => ps.r1Button
  | 8 => ps.r2Button

/-- The edge detector of the signal at matrix cell `rr cccc`; the other cells have none (R117, R133). The push-buttons
are where `BTN_PINMAP` has them. -/
def signalAt (cell : Nat) : Option (Fin 9) :=
  [(cellWord 2 0, 0), (cellWord 2 1, 1), (cellWord 2 2, 2), (cellWord 2 3, 3), (cellWord 2 4, 4), (cellWord 2 5, 5),
    (cellWord 2 7, 6), (cellWord 1 Config.btnPinmap.r1Button, 7),
    (cellWord 1 Config.btnPinmap.r2Button, 8)].lookup cell

/-- EDGE.SAMPLE's two outputs (R130). -/
def edgeOutputs (previous current : Bool) : Edge :=
  { rise := current && !previous, fall := !current && previous }

/-- `dec(v)`: the decimal numeral of `v`, most significant digit first, no leading zeros (R66). -/
def dec (v : Addr) : String := String.ofList (Nat.toDigits 10 v.toNat)

/-! ## Snapshots -/

/-- The values of one take: the mailbox, or with a write during the take the mix of the two snapshots, register by
register (R72). -/
def takenValues (mailbox : Snapshot) (mid : Option MidTake) : Snapshot :=
  match mid with
  | none => mailbox
  | some m =>
    { pc := if m.mask.pc then m.newer.pc else mailbox.pc
      ir := if m.mask.ir then m.newer.ir else mailbox.ir
      psw := if m.mask.psw then m.newer.psw else mailbox.psw
      r := Vector.ofFn fun i : Fin 8 => if m.mask.r.getLsbD i.val then m.newer.r[i] else mailbox.r[i]
      act := Vector.ofFn fun i : Fin Config.wAddr =>
        if m.mask.act.getLsbD i.val then m.newer.act[i] else mailbox.act[i] }

end Sys2Proof.Machine
end

