-- ==== Sys2Proof/Machine/Flags.lean ====
section
/-! DEFINITION. Every flag computation of the spec: the mode flags, the address-range flags, the parity flags
(spec/45_snapshot_derivation.md R252, R262, R264). -/

namespace Sys2Proof.Machine

/-- PanelState with the three mode flags replaced (R25). -/
def setMode (ps : PanelState) (kernel super user : Bool) : PanelState :=
  { ps with flagKernel := kernel, flagSuper := super, flagUser := user }

/-- `mm = PSW[15:14]` (R112). -/
def pswMode (psw : RegWord) : BitVec 2 := psw.extractLsb' 14 2

/-- The mode flags of a PSW: by `mm`, all false when the PSW is exactly zero (R112, R113, R252). -/
def ksuFlags (ps : PanelState) (psw : RegWord) : PanelState :=
  let z := psw == 0
  let m := pswMode psw
  setMode ps (!z && m == 0#2) (!z && m == 1#2) (!z && m == 3#2)

/-- The address-range flags of the full, untruncated PC (R262). -/
def rangeFlags (ps : PanelState) (pc : Nat) : PanelState :=
  { ps with
    flagAddr16 := decide (pc < 2 ^ 16)
    flagAddr18 := decide (2 ^ 16 ≤ pc) && decide (pc < 2 ^ 18)
    flagAddr22 := decide (2 ^ 18 ≤ pc) }

/-- The exclusive or of bits `lo` to `lo + n - 1` (R12, `xor_reduce` of a slice). -/
def xorReduce (v : Word) (lo n : Nat) : Bool :=
  match n with
  | 0 => false
  | n + 1 => v.getLsbD (lo + n) ^^ xorReduce v lo n

/-- The parity flags of the displayed data: bits 7:0 and bits 13:8 (R264). -/
def parityFlags (ps : PanelState) : PanelState :=
  { ps with flagParLow := xorReduce ps.data 0 8, flagParHigh := xorReduce ps.data 8 6 }

end Sys2Proof.Machine
end

