-- ==== Sys2Proof/Machine/Ops.lean ====
section
/-! DEFINITION. The shared operations of FPC: the output trace, the panel lines, the simulator primitives, failures, the
snapshot mailbox, the end of a session and its start, and the arrival of the environment's inputs. -/

namespace Sys2Proof.Machine

/-- The outcome of one operation. -/
abbrev Result := Host.Outcome State Fault Refusal

/-- Go on with `f` when `o` answers a next state; a fault or a refusal ends the operation. -/
def andThen (o : Result) (f : State → Result) : Result :=
  match o with
  | .next s => f s
  | .fault r => .fault r
  | .refused r => .refused r

/-! ## The output trace -/

/-- Append one event to the trace (log 7). -/
def record (e : Event) (s : State) : State := { s with trace := s.trace ++ [e] }

/-- `wait(T)` (R12): nothing changes. -/
def waitFor (d : Config.Delay) (s : State) : State := record (.wait d) s

/-- A log event (R333). -/
def logEvent (level : LogLevel) (topic : LogTopic) (s : State) : State := record (.log level topic) s

/-- `raise <Failure>(info)` (R12, R305): the failure is recorded. -/
def raise (f : Failure) (s : State) : State := record (.failure f) s

/-! ## The panel lines -/

/-- The port registers after one line operation (R49); a read changes none. -/
def applyLine (l : LineEvent) (p : Ports) : Ports :=
  match l with
  | .colDir d => { p with colDir := d }
  | .swrow v => { p with swrow := v }
  | .colOut v => { p with colOut := v }
  | .ledrow v => { p with ledrow := v }
  | .readCols _ => p

/-- Perform one line operation. -/
def line (l : LineEvent) (s : State) : State :=
  record (.line l) { s with ports := applyLine l s.ports }

/-- Select switch row `r`, sample it, deselect it: one round of SCAN's loop (R162, R163). -/
def scanOneRow (r : Fin Config.nSwRow) (s : State) : State :=
  let s := { s with scanRow := r }
  let s := line (.swrow (selectRow r)) s
  let s := waitFor .settle s
  let v := s.colIn.row r
  let s := line (.readCols v) s
  let s := { s with work.raw := s.work.raw.setRow r (~~~v) }
  line (.swrow (setBit s.ports.swrow r.val true)) s

/-- SCAN when every line operation succeeds (R162). -/
def scanLines (s : State) : State :=
  let s := line (.colDir false) s
  let s := (List.finRange Config.nSwRow).foldl (fun s r => scanOneRow r s) s
  let s := line (.swrow swRowsHigh) s
  let s := waitFor .modePause s
  let s := line (.colDir true) s
  let s := line (.colOut columnsHigh) s
  { s with work.scanOk := true }

/-- Show one row of the grid: one round of DRIVE's loop (R195). -/
def driveOneRow (grid : LedGrid) (r : Fin Config.nLedRow) (s : State) : State :=
  let s := { s with ledRow := r }
  let s := line (.colOut (columnLevels (grid.row r))) s
  let s := waitFor .blank s
  let s := line (.ledrow (setBit s.ports.ledrow r.val true)) s
  let s := waitFor .vis s
  line (.ledrow (setBit s.ports.ledrow r.val false)) s

/-- DRIVE when every line operation succeeds (R195). -/
def driveLines (grid : LedGrid) (s : State) : State :=
  let s := line (.ledrow ledRowsOff) s
  let s := (List.finRange Config.nLedRow).foldl (fun s r => driveOneRow grid r s) s
  let s := line (.colOut columnsHigh) s
  { s with work.driveOk := true }

/-- A failed SCAN or DRIVE (R166, R199, R301): the four port registers take unknown levels
(spec/93_implementation_defined.md U7; log 9), the failure is recorded and logged. -/
def ioFailure (p : IoPhase) (s : State) : State :=
  let left := Config.freePorts s.free
  let s := { s with ports := left, free := s.free + 1 }
  let s := record (.linesUnknown left) s
  logEvent .error (.ioFailure p) (raise (.io p) s)

/-- SCAN (R160, R162, R166). -/
def scanMatrix (s : State) : State :=
  if s.ioOkScan then scanLines s
  else
    ioFailure .scan { s with scanRow := Config.freeScanRow s.free, work.scanOk := false }

/-- DRIVE(grid) (R190, R195, R199). -/
def driveGrid (grid : LedGrid) (s : State) : State :=
  if s.ioOkDrive then driveLines grid s
  else
    ioFailure .drive { s with ledRow := Config.freeLedRow s.free, work.driveOk := false }

/-! ## The simulator primitives (R64 to R68)

The answer of the coming call is the first prepared one, or a free value when none is prepared (log 5). -/

/-- What `SimHalted()` answers now (R68). -/
def haltedNow (s : State) : Bool :=
  match s.answers.halted with
  | a :: _ => a
  | [] => Config.freeHalted s.free

/-- The state after one call of `SimHalted()`. -/
def afterHalted (s : State) : State :=
  record (.sim (.halted (haltedNow s)))
    (match s.answers.halted with
      | _ :: rest => { s with answers.halted := rest }
      | [] => { s with free := s.free + 1 })

/-- What `MemRead` answers now (R64). -/
def readNow (s : State) : ReadAnswer :=
  match s.answers.reads with
  | a :: _ => a
  | [] => if Config.freeReadOk s.free then .ok (Config.freeReadWord s.free) else .failed

/-- Whether the coming `MemRead` never returns (spec/93_implementation_defined.md U16). -/
def readStuck (s : State) : Bool :=
  match s.answers.reads with
  | .never :: _ => true
  | _ => false

/-- The state after one `MemRead(addr, SIM_WORD_SIZE)`. -/
def afterRead (addr : Addr) (s : State) : State :=
  record (.sim (.read addr Config.simWordSize (readNow s)))
    (match s.answers.reads with
      | _ :: rest => { s with answers.reads := rest }
      | [] => { s with free := s.free + 1 })

/-- What `MemWrite` answers now (R65). -/
def writeNow (s : State) : Ack :=
  match s.answers.writes with
  | a :: _ => a
  | [] => if Config.freeWriteOk s.free then .ok else .failed

/-- Whether the first prepared answer is the primitive that never returns (U16). -/
def ackStuck (prepared : List Ack) : Bool :=
  match prepared with
  | .never :: _ => true
  | _ => false

/-- The state after one `MemWrite(addr, SIM_WORD_SIZE, v)`. -/
def afterWrite (addr : Addr) (v : Word) (s : State) : State :=
  record (.sim (.write addr Config.simWordSize v (writeNow s)))
    (match s.answers.writes with
      | _ :: rest => { s with answers.writes := rest }
      | [] => { s with free := s.free + 1 })

/-- What `SimSetReg` answers now (R66). -/
def setRegNow (s : State) : Ack :=
  match s.answers.setRegs with
  | a :: _ => a
  | [] => if Config.freeSetRegOk s.free then .ok else .failed

/-- The state after one `SimSetReg(PC_REG_NAME, dec(v))`. -/
def afterSetReg (v : Addr) (s : State) : State :=
  record (.sim (.setReg Config.pcRegName (dec v) (setRegNow s)))
    (match s.answers.setRegs with
      | _ :: rest => { s with answers.setRegs := rest }
      | [] => { s with free := s.free + 1 })

/-- `SimHalt()`, `SimRun()`, `SimStep()`: any result is ignored (R67). -/
def simHalt (s : State) : State := record (.sim .halt) s
def simRun (s : State) : State := record (.sim .run) s
def simStep (s : State) : State := record (.sim .singleStep) s

/-! ## Sessions -/

/-- Operations that reach the simulator are defined within a session only (spec/93_implementation_defined.md U18). -/
def inSession (s : State) (o : Result) : Result :=
  if s.phase = .done then .refused .noSession else o

/-- The phases of an iteration run within a session only (U17). -/
def inIteration (s : State) (o : Result) : Result :=
  if s.phase = .done then .refused .iterWhileDone else o

/-- SESSION.END: the one transfer of control out of the loop (R287, R320). The result was written by the caller;
nothing else changes. -/
def endSession (s : State) : State := { s with phase := .done }

/-- The session-start reset (R342, R343): the return into the loop. The six underived flags take free values (R53); the
rotary decoders, their copies in PanelState (log 16) and the port registers are not touched. -/
def startSession (s : State) : State :=
  { s with
    ps := { PanelState.zero (Config.auxStatus s.free) with
            r1Position := s.ps.r1Position, r2Position := s.ps.r2Position }
    consoleAddress := 0
    dataLatched := 0
    useDataLatched := false
    ed := Vector.replicate 9 Config.edgeReset
    blinkActive := false
    actBuf := Vector.replicate Config.wAddr 0
    snapReady := false
    firstIter := true
    phase := .stopchk
    free := s.free + 1 }

/-! ## The edge detectors -/

/-- EDGE.SAMPLE(k, current) (R130). -/
def sampleEdge (k : Fin 9) (current : Bool) (s : State) : State :=
  { s with
    work.edges := s.work.edges.set k (edgeOutputs s.ed[k] current)
    ed := s.ed.set k current }

/-- The nine samples of one snapshot iteration, on the PanelState values (R283). -/
def sampleAllEdges (s : State) : State :=
  [0, 1, 2, 3, 4, 5, 6, 7, 8].foldl (fun s k => sampleEdge k (monitored s.ps k) s) s

/-! ## The snapshot mailbox -/

/-- The reading of `SNAP.*` and of the activity counts that a take makes (R71, R73, R283). -/
def readMailbox (s : State) : State :=
  let S := takenValues s.snap s.midTake
  { s with work.snap := S, actBuf := S.act }

/-- The simulator's write that lands during or after the take: the mailbox holds the newer snapshot and the flag is set
again (R70, R72; log 19). -/
def landMidTake (s : State) : State :=
  match s.midTake with
  | none => s
  | some m => { s with snap := m.newer, snapReady := true, midTake := none }

/-- SNAP.TAKE (R71): test and clear the flag as one action; when it was set, read the mailbox. -/
def takeSnapshot (s : State) : State :=
  let t := s.snapReady
  let s := { s with snapReady := false, work.taken := t }
  landMidTake (if t then readMailbox s else s)

/-! ## The rotary decoders -/

/-- ROT.ADD_DELTA(n, a, b) (R141). -/
def addDelta (n : RotaryId) (a b : Bool) (s : State) : State :=
  match n with
  | .rot1 =>
    { s with
      work.delta := quadDelta s.rot1.lastState (quadState a b)
      rot1 := rotaryStep (modulus .rot1) s.rot1 (quadState a b) }
  | .rot2 =>
    { s with
      work.delta := quadDelta s.rot2.lastState (quadState a b)
      rot2 := rotaryStep (modulus .rot2) s.rot2 (quadState a b) }

/-- PanelState's copies of the two positions (R148). -/
def copyPositions (s : State) : State :=
  { s with
    ps.r1Position := BitVec.ofNat 3 s.rot1.position
    ps.r2Position := BitVec.ofNat 2 s.rot2.position }

/-! ## The switches and the lamps -/

/-- DECODE(raw): what it returns goes to the iteration's values (R167, R168). -/
def decodeMatrix (raw : SwitchMatrix) (s : State) : State := { s with work.switches := decodeRaw raw }

/-- The update of PanelState from what DECODE returned (R169). -/
def updatePanel (s : State) : State :=
  let d := s.work.switches
  { s with
    ps := { s.ps with
            switchState := d.sr
            swTest := d.swTest, swLoadAddr := d.swLoadAddr, swExam := d.swExam, swDep := d.swDep
            swCont := d.swCont, swEnableHalt := d.swEnableHalt
            swSinstSbusCycle := d.swSinstSbusCycle, swStart := d.swStart
            r1Button := d.r1Button, r2Button := d.r2Button } }

/-- One row of format SW: the cell of the raw matrix goes to its target (R92 to R96). -/
def decodeCell (r : Fin Config.nSwRow) (c : Nat) (t : SwitchTarget) (s : State) : State :=
  { s with work.switches := setTarget s.work.switches t (rawCell s.work.raw r c) }

/-- ENCODE(PS, act): the grid goes to the iteration's values (R180). -/
def encodePanel (act : Option Activity) (s : State) : State := { s with work.grid := encodeGrid s.ps act }

/-- One row of format LED: one cell of the grid (R98 to R106). -/
def encodeCell (r : Fin Config.nLedRow) (c : Nat) (s : State) : State :=
  { s with
    work.grid := s.work.grid.setRow r (setBit (s.work.grid.row r) c (ledCell s.ps (shownActivity s) r c)) }

/-- One row of format QT: the delta of the transition (R109 to R111). -/
def setDelta (d : Int) (s : State) : State := { s with work.delta := d }

/-- One row of format KSU: the mode flags, all false where the PSW taken is exactly zero (R112, R113). -/
def modeRow (kernel super user : Bool) (s : State) : State :=
  let nz := s.work.snap.psw != 0
  { s with ps := setMode s.ps (nz && kernel) (nz && super) (nz && user) }

/-- One row of format RSEL: the value shown (R114). -/
def selectRegister (k : BitVec 3) (s : State) : State :=
  { s with work.regValue := regSelect s.work.snap k }

/-! ## The environment -/

/-- The inputs of one iteration arrive (R7, R70, R280, R311): a stop request clears `keep_running`, a delivered
snapshot fills the mailbox and sets the flag. -/
def arrive (x : Stimulus) (answers : Answers) (s : State) : State :=
  { s with
    keepRunning := s.keepRunning && !x.stop
    colIn := x.levels
    ioOkScan := x.ioOkScan
    ioOkDrive := x.ioOkDrive
    snap := x.deliver.getD s.snap
    snapReady := s.snapReady || x.deliver.isSome
    midTake := x.midTake
    answers := answers }

/-- A free snapshot kept within the bounds the spec sets: `W_PC` bits, counts up to `ACT_DEPTH` (R42, R73). -/
def boundSnapshot (S : Snapshot) : Snapshot :=
  { S with pc := S.pc % 2 ^ Config.wPc, act := S.act.map fun n => n % (Config.actDepth + 1) }

/-- What the environment gives an iteration for which nothing is prepared: a free value within the bounds (log 1). -/
def freeInputs (n : Nat) : Stimulus :=
  let x := Config.freeStimulus n
  { x with
    deliver := x.deliver.map boundSnapshot
    midTake := x.midTake.map fun m => { m with newer := boundSnapshot m.newer } }

end Sys2Proof.Machine
end

