-- ==== Sys2Proof/Machine/Commands.lean ====
section
/-! DEFINITION. The ten console commands (spec/44_console_commands.md R210 to R242). Each reads its edge from the
outputs `e[k]` of this iteration's samples and asks `SimHalted()` where its rule does. -/

namespace Sys2Proof.Machine

/-- `e[k]` (R210, R283). -/
def edgeOf (k : Fin 9) (s : State) : Edge := s.work.edges[k]

/-- LOAD_ADDR (R212). -/
def loadAddress (s : State) : State :=
  if (edgeOf 1 s).fall then
    if haltedNow s then
      { afterHalted s with consoleAddress := s.ps.switchState, useDataLatched := false }
    else afterHalted s
  else s

/-- What a successful EXAM or DEP leaves (R214, R218): the word is latched and owns the display, the address advances
by 1 modulo 2 to the `W_ADDR`. -/
def latchWord (v : Word) (s : State) : State :=
  { s with dataLatched := v, useDataLatched := true, consoleAddress := s.consoleAddress + 1 }

/-- EXAM once its read has been answered (R214, R216). -/
def readAnswered (s : State) : State :=
  match readNow s with
  | .ok v => latchWord v (afterRead s.consoleAddress s)
  | _ => raise (.sim .exam) (afterRead s.consoleAddress s)

/-- EXAM (R214, R216). -/
def examineWord (s : State) : Result :=
  if (edgeOf 2 s).fall then
    if haltedNow s then
      let s := afterHalted s
      if readStuck s then .fault .primitiveNeverReturns else .next (readAnswered s)
    else .next (afterHalted s)
  else .next s

/-- DEP once its write has been answered (R218, R220). -/
def writeAnswered (s : State) : State :=
  let v := s.ps.switchState.setWidth Config.wData
  match writeNow s with
  | .ok => latchWord v (afterWrite s.consoleAddress v s)
  | _ => raise (.sim .dep) (afterWrite s.consoleAddress v s)

/-- DEP (R218, R220). -/
def depositWord (s : State) : Result :=
  if (edgeOf 3 s).fall then
    if haltedNow s then
      let s := afterHalted s
      if ackStuck s.answers.writes then .fault .primitiveNeverReturns else .next (writeAnswered s)
    else .next (afterHalted s)
  else .next s

/-- CONT (R224, R226): the run state is not examined. -/
def continueStep (s : State) : State :=
  if (edgeOf 4 s).fall then
    logEvent .debug (.contDiagnostic s.ps.swSinstSbusCycle) (simStep s)
  else s

/-- HALT (R228). -/
def haltCpu (s : State) : State :=
  if (edgeOf 5 s).fall then
    if haltedNow s then afterHalted s else simHalt (afterHalted s)
  else s

/-- ENABLE (R230). -/
def enableCpu (s : State) : State :=
  if (edgeOf 5 s).rise then
    if haltedNow s then { simRun (afterHalted s) with useDataLatched := false }
    else afterHalted s
  else s

/-- START once its register set has been answered (R232, R233). -/
def setRegAnswered (s : State) : State :=
  match setRegNow s with
  | .ok => { simRun (afterSetReg s.consoleAddress s) with useDataLatched := false }
  | _ => raise (.sim .start) (afterSetReg s.consoleAddress s)

/-- START (R232, R233). -/
def startCpu (s : State) : Result :=
  if (edgeOf 6 s).fall then
    if haltedNow s || !Config.startRequiresHalt then
      let s := afterHalted s
      if ackStuck s.answers.setRegs then .fault .primitiveNeverReturns else .next (setRegAnswered s)
    else .next (afterHalted s)
  else .next s

/-- RELOAD (R234). -/
def reloadSession (s : State) : State :=
  if (edgeOf 7 s).rise then endSession { s with sessionResult := .reload } else s

/-- RESTART (R235). -/
def restartSession (s : State) : State :=
  if (edgeOf 8 s).rise then endSession { s with sessionResult := .restart } else s

/-- TEST (R236): a debug dump, no control effect. -/
def testDump (s : State) : State :=
  if (edgeOf 0 s).rise then logEvent .debug .testDump s else s

/-- The command phase of CONTROL: the ten commands in their order; a command that ends the session ends the phase
(R211, R283, R315). -/
def runCommands (s : State) : Result :=
  andThen (examineWord (loadAddress s)) fun s =>
  andThen (depositWord s) fun s =>
  andThen (startCpu (enableCpu (haltCpu (continueStep s)))) fun s =>
  let s := reloadSession s
  if s.phase = .done then .next s
  else
    let s := restartSession s
    if s.phase = .done then .next s
    else .next (testDump s)

/-- LOAD_ADDR, row 0xA1 (R212). -/
def execLoadAddr (s : State) : Result := inSession s (.next (loadAddress s))
/-- EXAM, row 0xA2 (R214, R216). -/
def execExam (s : State) : Result := inSession s (examineWord s)
/-- DEP, row 0xA3 (R218, R220). -/
def execDep (s : State) : Result := inSession s (depositWord s)
/-- CONT, row 0x24 under mask 0x7F (R224, R226); the run-state bit `h` is not examined. -/
def execCont (_h : Bool) (s : State) : Result := inSession s (.next (continueStep s))
/-- HALT, row 0x25 (R228). -/
def execHalt (s : State) : Result := inSession s (.next (haltCpu s))
/-- ENABLE, row 0xE5 (R230). -/
def execEnable (s : State) : Result := inSession s (.next (enableCpu s))
/-- START, row 0xA7 (R232, R233). -/
def execStart (s : State) : Result := inSession s (startCpu s)
/-- RELOAD, row 0x5A under mask 0x7F (R234); `h` is not examined. -/
def execReload (_h : Bool) (s : State) : Result := .next (reloadSession s)
/-- RESTART, row 0x5B under mask 0x7F (R235); `h` is not examined. -/
def execRestart (_h : Bool) (s : State) : Result := .next (restartSession s)
/-- TEST, row 0x60 under mask 0x7F (R236); `h` is not examined. -/
def execTest (_h : Bool) (s : State) : Result := .next (testDump s)

end Sys2Proof.Machine
end

