-- ==== Sys2Proof/Machine/Derive.lean ====
section
/-! DEFINITION. The per-snapshot derivations (spec/45_snapshot_derivation.md R250 to R268), and the rows of the formats
KSU, KSU16 and RSEL (spec/30_encoding.md R112 to R114). -/

namespace Sys2Proof.Machine

/-- DERIVE.KSU(S) (R252). -/
def deriveMode (S : Snapshot) (s : State) : State := { s with ps := ksuFlags s.ps S.psw }

/-- DERIVE.ADDR(S, h) (R254). -/
def deriveAddress (S : Snapshot) (h : Bool) (s : State) : State :=
  if h || s.ps.r1Position == 3#3 then { s with ps.address := s.consoleAddress }
  else { s with ps.address := pc22 S }

/-- DERIVE.BLINK(h) (R256). -/
def deriveBlinking (h : Bool) (s : State) : State :=
  { s with blinkActive := !h && s.ps.r1Position != 3#3 }

/-- DERIVE.DATA(S, h) (R258): the four cases in their order; the last leaves the data unchanged. -/
def deriveDisplayedData (S : Snapshot) (h : Bool) (s : State) : State :=
  if s.ps.r2Position = 3#2 then
    { s with ps.data := regSelect S (s.ps.switchState.setWidth 3) }
  else if s.useDataLatched then { s with ps.data := s.dataLatched }
  else if h then { s with ps.data := s.ps.switchState.setWidth Config.wData }
  else s

/-- DERIVE.RANGE(S) (R262). -/
def deriveAddressRange (S : Snapshot) (s : State) : State := { s with ps := rangeFlags s.ps S.pc }

/-- DERIVE.PARITY() (R264): only while blinkenlights are not in use. -/
def deriveParityFlags (s : State) : State :=
  if s.blinkActive then s else { s with ps := parityFlags s.ps }

/-- DERIVE.AUX(S, h) (R266): the six underived flags take the next free value of `AUX_STATUS` (log 10). -/
def deriveAuxFlags (s : State) : State :=
  { s with ps.aux := Config.auxStatus s.free, free := s.free + 1 }

/-- The seven derivations in their order, on one snapshot and one run state (R250). -/
def deriveAll (S : Snapshot) (h : Bool) (s : State) : State :=
  let s := deriveMode S s
  let s := deriveAddress S h s
  let s := deriveBlinking h s
  let s := deriveDisplayedData S h s
  let s := deriveAddressRange S s
  let s := deriveParityFlags s
  deriveAuxFlags s

def execDeriveKsu (S : Snapshot) (s : State) : Result := .next (deriveMode S s)
def execDeriveAddr (S : Snapshot) (h : Bool) (s : State) : Result := .next (deriveAddress S h s)
def execDeriveBlink (h : Bool) (s : State) : Result := .next (deriveBlinking h s)
def execDeriveData (S : Snapshot) (h : Bool) (s : State) : Result := .next (deriveDisplayedData S h s)
def execDeriveRange (S : Snapshot) (s : State) : Result := .next (deriveAddressRange S s)
def execDeriveParity (s : State) : Result := .next (deriveParityFlags s)
/-- DERIVE.AUX(S, h): whatever function of `S`, `h` and the state `AUX_STATUS` is, its value is free (log 10). -/
def execDeriveAux (_S : Snapshot) (_h : Bool) (s : State) : Result := .next (deriveAuxFlags s)

/-- REGSEL(S, k) (R260): the value returned goes to the iteration's values. -/
def execRegsel (S : Snapshot) (k : BitVec 3) (s : State) : Result :=
  .next { s with work.regValue := regSelect S k }

/-! The mode rows (R112, R113). -/

def execKsuMode0 (s : State) : Result := .next (modeRow true false false s)
def execKsuMode1 (s : State) : Result := .next (modeRow false true false s)
/-- `mm = 2`: value 2 unused, all flags false (R112). -/
def execKsuMode2 (s : State) : Result := .next (modeRow false false false s)
def execKsuMode3 (s : State) : Result := .next (modeRow false false true s)
/-- The whole PSW is zero: all flags false (R113). -/
def execKsuPswZero (s : State) : Result := .next { s with ps := setMode s.ps false false false }

/-! The register rows (R114). -/

def execRselR0 (s : State) : Result := .next (selectRegister 0#3 s)
def execRselR1 (s : State) : Result := .next (selectRegister 1#3 s)
def execRselR2 (s : State) : Result := .next (selectRegister 2#3 s)
def execRselR3 (s : State) : Result := .next (selectRegister 3#3 s)
def execRselR4 (s : State) : Result := .next (selectRegister 4#3 s)
def execRselR5 (s : State) : Result := .next (selectRegister 5#3 s)
def execRselSp (s : State) : Result := .next (selectRegister 6#3 s)
def execRselPc (s : State) : Result := .next (selectRegister 7#3 s)

end Sys2Proof.Machine
end

