-- ==== Sys2Proof/Machine/Light.lean ====
section
/-! DEFINITION. ENCODE, DRIVE and the rows of format LED (spec/43_light_encode_drive.md R180 to R199,
spec/30_encoding.md R98 to R107). A row of format LED writes one cell of the grid from its source (log 26). -/

namespace Sys2Proof.Machine

/-- ENCODE(PS, act) (R180, R181). -/
def execEncode (act : Option Activity) (s : State) : Result := .next (encodePanel act s)

/-- DRIVE(grid) (R190, R195, R199). -/
def execDrive (grid : LedGrid) (s : State) : Result := .next (driveGrid grid s)

/-! R98 -/

def execLedAddrbit0 (s : State) : Result := .next (encodeCell 0 0 s)
def execLedAddrbit1 (s : State) : Result := .next (encodeCell 0 1 s)
def execLedAddrbit2 (s : State) : Result := .next (encodeCell 0 2 s)
def execLedAddrbit3 (s : State) : Result := .next (encodeCell 0 3 s)
def execLedAddrbit4 (s : State) : Result := .next (encodeCell 0 4 s)
def execLedAddrbit5 (s : State) : Result := .next (encodeCell 0 5 s)
def execLedAddrbit6 (s : State) : Result := .next (encodeCell 0 6 s)
def execLedAddrbit7 (s : State) : Result := .next (encodeCell 0 7 s)
def execLedAddrbit8 (s : State) : Result := .next (encodeCell 0 8 s)
def execLedAddrbit9 (s : State) : Result := .next (encodeCell 0 9 s)
def execLedAddrbit10 (s : State) : Result := .next (encodeCell 0 10 s)
def execLedAddrbit11 (s : State) : Result := .next (encodeCell 0 11 s)
def execLedAddrbit12 (s : State) : Result := .next (encodeCell 1 0 s)
def execLedAddrbit13 (s : State) : Result := .next (encodeCell 1 1 s)
def execLedAddrbit14 (s : State) : Result := .next (encodeCell 1 2 s)
def execLedAddrbit15 (s : State) : Result := .next (encodeCell 1 3 s)
def execLedAddrbit16 (s : State) : Result := .next (encodeCell 1 4 s)
def execLedAddrbit17 (s : State) : Result := .next (encodeCell 1 5 s)
def execLedAddrbit18 (s : State) : Result := .next (encodeCell 1 6 s)
def execLedAddrbit19 (s : State) : Result := .next (encodeCell 1 7 s)
def execLedAddrbit20 (s : State) : Result := .next (encodeCell 1 8 s)
def execLedAddrbit21 (s : State) : Result := .next (encodeCell 1 9 s)
/-! R106 -/

def execLedUnused1At10 (s : State) : Result := .next (encodeCell 1 10 s)
def execLedUnused1At11 (s : State) : Result := .next (encodeCell 1 11 s)
/-! R101, the columns of `LED_STATUS_ORDER` -/

def execLedFlagAddr22 (s : State) : Result := .next (encodeCell 2 (statusColumn .addr22) s)
def execLedFlagAddr18 (s : State) : Result := .next (encodeCell 2 (statusColumn .addr18) s)
def execLedFlagAddr16 (s : State) : Result := .next (encodeCell 2 (statusColumn .addr16) s)
def execLedFlagData (s : State) : Result := .next (encodeCell 2 (statusColumn .data) s)
def execLedFlagKernel (s : State) : Result := .next (encodeCell 2 (statusColumn .kernel) s)
def execLedFlagSuper (s : State) : Result := .next (encodeCell 2 (statusColumn .super) s)
def execLedFlagUser (s : State) : Result := .next (encodeCell 2 (statusColumn .user) s)
def execLedFlagMaster (s : State) : Result := .next (encodeCell 2 (statusColumn .master) s)
def execLedFlagPause (s : State) : Result := .next (encodeCell 2 (statusColumn .pause) s)
def execLedFlagRun (s : State) : Result := .next (encodeCell 2 (statusColumn .run) s)
def execLedFlagAddrErr (s : State) : Result := .next (encodeCell 2 (statusColumn .addrErr) s)
def execLedFlagParErr (s : State) : Result := .next (encodeCell 2 (statusColumn .parErr) s)
/-! R102 -/

def execLedData0 (s : State) : Result := .next (encodeCell 3 0 s)
def execLedData1 (s : State) : Result := .next (encodeCell 3 1 s)
def execLedData2 (s : State) : Result := .next (encodeCell 3 2 s)
def execLedData3 (s : State) : Result := .next (encodeCell 3 3 s)
def execLedData4 (s : State) : Result := .next (encodeCell 3 4 s)
def execLedData5 (s : State) : Result := .next (encodeCell 3 5 s)
def execLedData6 (s : State) : Result := .next (encodeCell 3 6 s)
def execLedData7 (s : State) : Result := .next (encodeCell 3 7 s)
def execLedData8 (s : State) : Result := .next (encodeCell 3 8 s)
def execLedData9 (s : State) : Result := .next (encodeCell 3 9 s)
def execLedData10 (s : State) : Result := .next (encodeCell 3 10 s)
def execLedData11 (s : State) : Result := .next (encodeCell 3 11 s)
/-! R103 -/

def execLedData12 (s : State) : Result := .next (encodeCell 4 0 s)
def execLedData13 (s : State) : Result := .next (encodeCell 4 1 s)
def execLedData14 (s : State) : Result := .next (encodeCell 4 2 s)
def execLedData15 (s : State) : Result := .next (encodeCell 4 3 s)
def execLedParLow (s : State) : Result := .next (encodeCell 4 4 s)
def execLedParHigh (s : State) : Result := .next (encodeCell 4 5 s)
/-! R104 -/

def execLedR1Pos0 (s : State) : Result := .next (encodeCell 4 6 s)
def execLedR1Pos1 (s : State) : Result := .next (encodeCell 4 7 s)
def execLedR1Pos2 (s : State) : Result := .next (encodeCell 4 8 s)
def execLedR1Pos3 (s : State) : Result := .next (encodeCell 4 9 s)
def execLedR1Pos4 (s : State) : Result := .next (encodeCell 5 6 s)
def execLedR1Pos5 (s : State) : Result := .next (encodeCell 5 7 s)
def execLedR1Pos6 (s : State) : Result := .next (encodeCell 5 8 s)
def execLedR1Pos7 (s : State) : Result := .next (encodeCell 5 9 s)
/-! R105 -/

def execLedR2Pos0 (s : State) : Result := .next (encodeCell 4 10 s)
def execLedR2Pos1 (s : State) : Result := .next (encodeCell 4 11 s)
def execLedR2Pos2 (s : State) : Result := .next (encodeCell 5 10 s)
def execLedR2Pos3 (s : State) : Result := .next (encodeCell 5 11 s)
/-! R106 -/

def execLedUnused5At0 (s : State) : Result := .next (encodeCell 5 0 s)
def execLedUnused5At1 (s : State) : Result := .next (encodeCell 5 1 s)
def execLedUnused5At2 (s : State) : Result := .next (encodeCell 5 2 s)
def execLedUnused5At3 (s : State) : Result := .next (encodeCell 5 3 s)
def execLedUnused5At4 (s : State) : Result := .next (encodeCell 5 4 s)
def execLedUnused5At5 (s : State) : Result := .next (encodeCell 5 5 s)

end Sys2Proof.Machine
end

