-- ==== Sys2Proof/Machine/Quadrature.lean ====
section
/-! DEFINITION. ROT.ADD_DELTA and the rows of format QT (spec/41_rotary_decoder.md R141 to R146,
spec/30_encoding.md R108 to R111). A row of format QT gives the delta of its transition (log 26). -/

namespace Sys2Proof.Machine

/-- ROT.ADD_DELTA(n, a, b) (R141). -/
def execRotAddDelta (n : RotaryId) (a b : Bool) (s : State) : Result := .next (addDelta n a b s)

def execQtRepeat0000 (s : State) : Result := .next (setDelta (quadDelta 0b00#2 0b00#2) s)
def execQtCw0001 (s : State) : Result := .next (setDelta (quadDelta 0b00#2 0b01#2) s)
def execQtCcw0010 (s : State) : Result := .next (setDelta (quadDelta 0b00#2 0b10#2) s)
def execQtJump0011 (s : State) : Result := .next (setDelta (quadDelta 0b00#2 0b11#2) s)
def execQtCcw0100 (s : State) : Result := .next (setDelta (quadDelta 0b01#2 0b00#2) s)
def execQtRepeat0101 (s : State) : Result := .next (setDelta (quadDelta 0b01#2 0b01#2) s)
def execQtJump0110 (s : State) : Result := .next (setDelta (quadDelta 0b01#2 0b10#2) s)
def execQtCw0111 (s : State) : Result := .next (setDelta (quadDelta 0b01#2 0b11#2) s)
def execQtCw1000 (s : State) : Result := .next (setDelta (quadDelta 0b10#2 0b00#2) s)
def execQtJump1001 (s : State) : Result := .next (setDelta (quadDelta 0b10#2 0b01#2) s)
def execQtRepeat1010 (s : State) : Result := .next (setDelta (quadDelta 0b10#2 0b10#2) s)
def execQtCcw1011 (s : State) : Result := .next (setDelta (quadDelta 0b10#2 0b11#2) s)
def execQtJump1100 (s : State) : Result := .next (setDelta (quadDelta 0b11#2 0b00#2) s)
def execQtCcw1101 (s : State) : Result := .next (setDelta (quadDelta 0b11#2 0b01#2) s)
def execQtCw1110 (s : State) : Result := .next (setDelta (quadDelta 0b11#2 0b10#2) s)
def execQtRepeat1111 (s : State) : Result := .next (setDelta (quadDelta 0b11#2 0b11#2) s)

end Sys2Proof.Machine
end

