-- ==== Sys2Proof/Machine/Scan.lean ====
section
/-! DEFINITION. SCAN, DECODE and the rows of format SW (spec/42_switch_scan_decode.md R160 to R169,
spec/30_encoding.md R92 to R96). A row of format SW copies one cell of the raw matrix to its target in what DECODE
returns (log 26). -/

namespace Sys2Proof.Machine

/-- SCAN (R160, R162, R166). -/
def execScan (s : State) : Result := .next (scanMatrix s)

/-- DECODE(raw) (R167, R168). -/
def execDecode (raw : SwitchMatrix) (s : State) : Result := .next (decodeMatrix raw s)

/-! R92 -/

def execSwSr0 (s : State) : Result := .next (decodeCell 0 0 (.sr 0) s)
def execSwSr1 (s : State) : Result := .next (decodeCell 0 1 (.sr 1) s)
def execSwSr2 (s : State) : Result := .next (decodeCell 0 2 (.sr 2) s)
def execSwSr3 (s : State) : Result := .next (decodeCell 0 3 (.sr 3) s)
def execSwSr4 (s : State) : Result := .next (decodeCell 0 4 (.sr 4) s)
def execSwSr5 (s : State) : Result := .next (decodeCell 0 5 (.sr 5) s)
def execSwSr6 (s : State) : Result := .next (decodeCell 0 6 (.sr 6) s)
def execSwSr7 (s : State) : Result := .next (decodeCell 0 7 (.sr 7) s)
def execSwSr8 (s : State) : Result := .next (decodeCell 0 8 (.sr 8) s)
def execSwSr9 (s : State) : Result := .next (decodeCell 0 9 (.sr 9) s)
def execSwSr10 (s : State) : Result := .next (decodeCell 0 10 (.sr 10) s)
def execSwSr11 (s : State) : Result := .next (decodeCell 0 11 (.sr 11) s)
/-! R93 -/

def execSwSr12 (s : State) : Result := .next (decodeCell 1 0 (.sr 12) s)
def execSwSr13 (s : State) : Result := .next (decodeCell 1 1 (.sr 13) s)
def execSwSr14 (s : State) : Result := .next (decodeCell 1 2 (.sr 14) s)
def execSwSr15 (s : State) : Result := .next (decodeCell 1 3 (.sr 15) s)
def execSwSr16 (s : State) : Result := .next (decodeCell 1 4 (.sr 16) s)
def execSwSr17 (s : State) : Result := .next (decodeCell 1 5 (.sr 17) s)
def execSwSr18 (s : State) : Result := .next (decodeCell 1 6 (.sr 18) s)
def execSwSr19 (s : State) : Result := .next (decodeCell 1 7 (.sr 19) s)
def execSwSr20 (s : State) : Result := .next (decodeCell 1 8 (.sr 20) s)
def execSwSr21 (s : State) : Result := .next (decodeCell 1 9 (.sr 21) s)
/-! R94, the columns of `BTN_PINMAP` -/

def execSwR1Button (s : State) : Result := .next (decodeCell 1 Config.btnPinmap.r1Button .r1Button s)
def execSwR2Button (s : State) : Result := .next (decodeCell 1 Config.btnPinmap.r2Button .r2Button s)
/-! R95 -/

def execSwTest (s : State) : Result := .next (decodeCell 2 0 .swTest s)
def execSwLoadAddr (s : State) : Result := .next (decodeCell 2 1 .swLoadAddr s)
def execSwExam (s : State) : Result := .next (decodeCell 2 2 .swExam s)
def execSwDep (s : State) : Result := .next (decodeCell 2 3 .swDep s)
def execSwCont (s : State) : Result := .next (decodeCell 2 4 .swCont s)
def execSwEnableHalt (s : State) : Result := .next (decodeCell 2 5 .swEnableHalt s)
def execSwSinstSbusCycle (s : State) : Result := .next (decodeCell 2 6 .swSinstSbusCycle s)
def execSwStart (s : State) : Result := .next (decodeCell 2 7 .swStart s)
/-! R96, the columns of `ROT_PINMAP` -/

def execSwQ1a (s : State) : Result := .next (decodeCell 2 Config.rotPinmap.q1a .q1a s)
def execSwQ1b (s : State) : Result := .next (decodeCell 2 Config.rotPinmap.q1b .q1b s)
def execSwQ2a (s : State) : Result := .next (decodeCell 2 Config.rotPinmap.q2a .q2a s)
def execSwQ2b (s : State) : Result := .next (decodeCell 2 Config.rotPinmap.q2b .q2b s)

end Sys2Proof.Machine
end

