-- ==== Sys2Proof/Machine/Sequencer.lean ====
section
/-! DEFINITION. The iteration (spec/46_iteration_sequencer.md R280 to R287): the eight phases, CONTROL, HALTCHK,
SESSION.END, ITER, SNAP.TAKE, EDGE.SAMPLE, and the session results (spec/30_encoding.md R119, R120). -/

namespace Sys2Proof.Machine

/-- HALTCHK(scan_ok): the session-start halt check (R286). -/
def haltCheck (scanOk : Bool) (s : State) : State :=
  if s.firstIter && scanOk then
    let s := { s with firstIter := false }
    if s.ps.swEnableHalt = Config.startHaltLevel then simHalt s else s
  else s

/-- CONTROL after the mailbox was read: samples, commands, derivations (R283). -/
def controlBody (s : State) : Result :=
  andThen (runCommands (sampleAllEdges s)) fun s =>
    if s.phase = .done then .next s
    else .next (deriveAll s.work.snap (haltedNow s) (afterHalted s))

/-- CONTROL (R283): the mailbox is read, then the body. -/
def controlLogic (s : State) : Result := controlBody (landMidTake (readMailbox s))

/-! ## The phases of the iteration (R280) -/

/-- `P_STOPCHK`: the stop check (R281). -/
def stopPhase (s : State) : State :=
  let s := { s with phase := .stopchk }
  if s.keepRunning then s else endSession { s with sessionResult := .exit }

/-- `P_SCAN`. -/
def scanPhase (s : State) : State := scanMatrix { s with phase := .scan }

/-- `P_DECODE`: DECODE and the update of PanelState (R168, R169). -/
def decodePhase (s : State) : State :=
  updatePanel (decodeMatrix s.work.raw { s with phase := .decode })

/-- `P_FEED`: both decoders are fed once and PanelState takes their positions (R147, R148). -/
def feedPhase (s : State) : State :=
  let d := s.work.switches
  copyPositions (addDelta .rot2 d.q2a d.q2b (addDelta .rot1 d.q1a d.q1b { s with phase := .feed }))

/-- `P_CONTROL`: the halt check, the take, then CONTROL or the idle wait (R280, R283, R284). -/
def controlPhase (s : State) : Result :=
  let s := takeSnapshot (haltCheck s.work.scanOk { s with phase := .control })
  if s.work.taken then controlBody s else .next (waitFor .idle s)

/-- `P_ENCODE` (R285). -/
def encodePhase (s : State) : State := encodePanel (shownActivity s) { s with phase := .encode }

/-- `P_DRIVE` (R285). -/
def drivePhase (s : State) : State := driveGrid s.work.grid { s with phase := .drive }

/-- The values of the iteration end with it (R51; log 8). -/
def endIteration (s : State) : State := { s with work := Work.idle }

/-- Scan, and where it succeeded decode and feed (R280, R282). -/
def samplePanel (s : State) : State :=
  let s := scanPhase s
  if s.work.scanOk then feedPhase (decodePhase s) else s

/-- ITER: one iteration (R280). -/
def iteration (s : State) : Result :=
  let s := stopPhase s
  if s.phase = .done then .next (endIteration s)
  else
    andThen (controlPhase (samplePanel s)) fun s =>
      if s.phase = .done then .next (endIteration s)
      else .next (endIteration (drivePhase (encodePhase s)))

/-- ITER (R280); not defined in `P_DONE` (spec/93_implementation_defined.md U17). -/
def execIter (s : State) : Result := inIteration s (iteration s)
/-- CONTROL (R283). -/
def execControl (s : State) : Result := inSession s (controlLogic s)
/-- HALTCHK(scan_ok) (R286). -/
def execHaltchk (scanOk : Bool) (s : State) : Result := inSession s (.next (haltCheck scanOk s))
/-- SESSION.END (R287). -/
def execSessionEnd (s : State) : Result := .next (endSession s)
/-- EDGE.SAMPLE(k, current) (R130). -/
def execEdgeSample (k : Fin 9) (current : Bool) (s : State) : Result := .next (sampleEdge k current s)
/-- SNAP.TAKE (R71). -/
def execSnapTake (s : State) : Result := .next (takeSnapshot s)

/-- PHASE.P_STOPCHK (R281). -/
def execPhaseStopchk (s : State) : Result := inIteration s (.next (stopPhase s))
/-- PHASE.P_SCAN (R162). -/
def execPhaseScan (s : State) : Result := inIteration s (.next (scanPhase s))
/-- PHASE.P_DECODE (R168, R169). -/
def execPhaseDecode (s : State) : Result := inIteration s (.next (decodePhase s))
/-- PHASE.P_FEED (R147, R148). -/
def execPhaseFeed (s : State) : Result := inIteration s (.next (feedPhase s))
/-- PHASE.P_CONTROL (R280, R283, R284, R286). -/
def execPhaseControl (s : State) : Result := inIteration s (controlPhase s)
/-- PHASE.P_ENCODE (R181, R285). -/
def execPhaseEncode (s : State) : Result := inIteration s (.next (encodePhase s))
/-- PHASE.P_DRIVE (R195, R285). -/
def execPhaseDrive (s : State) : Result := inIteration s (.next (drivePhase s))
/-- PHASE.P_DONE: SESSION.END; no operation until a session start (R287). -/
def execPhaseDone (s : State) : Result := .next (endSession s)

/-- RESULT.EXIT: the session result "plain exit" (R119, R281). -/
def execResultExit (s : State) : Result := .next { s with sessionResult := .exit }
/-- RESULT.RESTART (R119, R235). -/
def execResultRestart (s : State) : Result := .next { s with sessionResult := .restart }
/-- RESULT.RELOAD (R119, R234). -/
def execResultReload (s : State) : Result := .next { s with sessionResult := .reload }

end Sys2Proof.Machine
end

