-- ==== Sys2Proof/Machine/Dispatch.lean ====
section
/-! DEFINITION. The dispatch of the instructions to their meanings, one arm for each row of spec/opcode_table.json. -/

namespace Sys2Proof.Machine

def exec (i : Instr) (s : State) : Host.Outcome State Fault Refusal :=
  match i with
  | .swSr0 => Sys2Proof.Machine.execSwSr0 s
  | .swSr1 => Sys2Proof.Machine.execSwSr1 s
  | .swSr2 => Sys2Proof.Machine.execSwSr2 s
  | .swSr3 => Sys2Proof.Machine.execSwSr3 s
  | .swSr4 => Sys2Proof.Machine.execSwSr4 s
  | .swSr5 => Sys2Proof.Machine.execSwSr5 s
  | .swSr6 => Sys2Proof.Machine.execSwSr6 s
  | .swSr7 => Sys2Proof.Machine.execSwSr7 s
  | .swSr8 => Sys2Proof.Machine.execSwSr8 s
  | .swSr9 => Sys2Proof.Machine.execSwSr9 s
  | .swSr10 => Sys2Proof.Machine.execSwSr10 s
  | .swSr11 => Sys2Proof.Machine.execSwSr11 s
  | .swSr12 => Sys2Proof.Machine.execSwSr12 s
  | .swSr13 => Sys2Proof.Machine.execSwSr13 s
  | .swSr14 => Sys2Proof.Machine.execSwSr14 s
  | .swSr15 => Sys2Proof.Machine.execSwSr15 s
  | .swSr16 => Sys2Proof.Machine.execSwSr16 s
  | .swSr17 => Sys2Proof.Machine.execSwSr17 s
  | .swSr18 => Sys2Proof.Machine.execSwSr18 s
  | .swSr19 => Sys2Proof.Machine.execSwSr19 s
  | .swSr20 => Sys2Proof.Machine.execSwSr20 s
  | .swSr21 => Sys2Proof.Machine.execSwSr21 s
  | .swR1Button => Sys2Proof.Machine.execSwR1Button s
  | .swR2Button => Sys2Proof.Machine.execSwR2Button s
  | .swTest => Sys2Proof.Machine.execSwTest s
  | .swLoadAddr => Sys2Proof.Machine.execSwLoadAddr s
  | .swExam => Sys2Proof.Machine.execSwExam s
  | .swDep => Sys2Proof.Machine.execSwDep s
  | .swCont => Sys2Proof.Machine.execSwCont s
  | .swEnableHalt => Sys2Proof.Machine.execSwEnableHalt s
  | .swSinstSbusCycle => Sys2Proof.Machine.execSwSinstSbusCycle s
  | .swStart => Sys2Proof.Machine.execSwStart s
  | .swQ1a => Sys2Proof.Machine.execSwQ1a s
  | .swQ1b => Sys2Proof.Machine.execSwQ1b s
  | .swQ2a => Sys2Proof.Machine.execSwQ2a s
  | .swQ2b => Sys2Proof.Machine.execSwQ2b s
  | .ledAddrbit0 => Sys2Proof.Machine.execLedAddrbit0 s
  | .ledAddrbit1 => Sys2Proof.Machine.execLedAddrbit1 s
  | .ledAddrbit2 => Sys2Proof.Machine.execLedAddrbit2 s
  | .ledAddrbit3 => Sys2Proof.Machine.execLedAddrbit3 s
  | .ledAddrbit4 => Sys2Proof.Machine.execLedAddrbit4 s
  | .ledAddrbit5 => Sys2Proof.Machine.execLedAddrbit5 s
  | .ledAddrbit6 => Sys2Proof.Machine.execLedAddrbit6 s
  | .ledAddrbit7 => Sys2Proof.Machine.execLedAddrbit7 s
  | .ledAddrbit8 => Sys2Proof.Machine.execLedAddrbit8 s
  | .ledAddrbit9 => Sys2Proof.Machine.execLedAddrbit9 s
  | .ledAddrbit10 => Sys2Proof.Machine.execLedAddrbit10 s
  | .ledAddrbit11 => Sys2Proof.Machine.execLedAddrbit11 s
  | .ledAddrbit12 => Sys2Proof.Machine.execLedAddrbit12 s
  | .ledAddrbit13 => Sys2Proof.Machine.execLedAddrbit13 s
  | .ledAddrbit14 => Sys2Proof.Machine.execLedAddrbit14 s
  | .ledAddrbit15 => Sys2Proof.Machine.execLedAddrbit15 s
  | .ledAddrbit16 => Sys2Proof.Machine.execLedAddrbit16 s
  | .ledAddrbit17 => Sys2Proof.Machine.execLedAddrbit17 s
  | .ledAddrbit18 => Sys2Proof.Machine.execLedAddrbit18 s
  | .ledAddrbit19 => Sys2Proof.Machine.execLedAddrbit19 s
  | .ledAddrbit20 => Sys2Proof.Machine.execLedAddrbit20 s
  | .ledAddrbit21 => Sys2Proof.Machine.execLedAddrbit21 s
  | .ledUnused1At10 => Sys2Proof.Machine.execLedUnused1At10 s
  | .ledUnused1At11 => Sys2Proof.Machine.execLedUnused1At11 s
  | .ledFlagAddr22 => Sys2Proof.Machine.execLedFlagAddr22 s
  | .ledFlagAddr18 => Sys2Proof.Machine.execLedFlagAddr18 s
  | .ledFlagAddr16 => Sys2Proof.Machine.execLedFlagAddr16 s
  | .ledFlagData => Sys2Proof.Machine.execLedFlagData s
  | .ledFlagKernel => Sys2Proof.Machine.execLedFlagKernel s
  | .ledFlagSuper => Sys2Proof.Machine.execLedFlagSuper s
  | .ledFlagUser => Sys2Proof.Machine.execLedFlagUser s
  | .ledFlagMaster => Sys2Proof.Machine.execLedFlagMaster s
  | .ledFlagPause => Sys2Proof.Machine.execLedFlagPause s
  | .ledFlagRun => Sys2Proof.Machine.execLedFlagRun s
  | .ledFlagAddrErr => Sys2Proof.Machine.execLedFlagAddrErr s
  | .ledFlagParErr => Sys2Proof.Machine.execLedFlagParErr s
  | .ledData0 => Sys2Proof.Machine.execLedData0 s
  | .ledData1 => Sys2Proof.Machine.execLedData1 s
  | .ledData2 => Sys2Proof.Machine.execLedData2 s
  | .ledData3 => Sys2Proof.Machine.execLedData3 s
  | .ledData4 => Sys2Proof.Machine.execLedData4 s
  | .ledData5 => Sys2Proof.Machine.execLedData5 s
  | .ledData6 => Sys2Proof.Machine.execLedData6 s
  | .ledData7 => Sys2Proof.Machine.execLedData7 s
  | .ledData8 => Sys2Proof.Machine.execLedData8 s
  | .ledData9 => Sys2Proof.Machine.execLedData9 s
  | .ledData10 => Sys2Proof.Machine.execLedData10 s
  | .ledData11 => Sys2Proof.Machine.execLedData11 s
  | .ledData12 => Sys2Proof.Machine.execLedData12 s
  | .ledData13 => Sys2Proof.Machine.execLedData13 s
  | .ledData14 => Sys2Proof.Machine.execLedData14 s
  | .ledData15 => Sys2Proof.Machine.execLedData15 s
  | .ledParLow => Sys2Proof.Machine.execLedParLow s
  | .ledParHigh => Sys2Proof.Machine.execLedParHigh s
  | .ledR1Pos0 => Sys2Proof.Machine.execLedR1Pos0 s
  | .ledR1Pos1 => Sys2Proof.Machine.execLedR1Pos1 s
  | .ledR1Pos2 => Sys2Proof.Machine.execLedR1Pos2 s
  | .ledR1Pos3 => Sys2Proof.Machine.execLedR1Pos3 s
  | .ledR1Pos4 => Sys2Proof.Machine.execLedR1Pos4 s
  | .ledR1Pos5 => Sys2Proof.Machine.execLedR1Pos5 s
  | .ledR1Pos6 => Sys2Proof.Machine.execLedR1Pos6 s
  | .ledR1Pos7 => Sys2Proof.Machine.execLedR1Pos7 s
  | .ledR2Pos0 => Sys2Proof.Machine.execLedR2Pos0 s
  | .ledR2Pos1 => Sys2Proof.Machine.execLedR2Pos1 s
  | .ledR2Pos2 => Sys2Proof.Machine.execLedR2Pos2 s
  | .ledR2Pos3 => Sys2Proof.Machine.execLedR2Pos3 s
  | .ledUnused5At0 => Sys2Proof.Machine.execLedUnused5At0 s
  | .ledUnused5At1 => Sys2Proof.Machine.execLedUnused5At1 s
  | .ledUnused5At2 => Sys2Proof.Machine.execLedUnused5At2 s
  | .ledUnused5At3 => Sys2Proof.Machine.execLedUnused5At3 s
  | .ledUnused5At4 => Sys2Proof.Machine.execLedUnused5At4 s
  | .ledUnused5At5 => Sys2Proof.Machine.execLedUnused5At5 s
  | .qtRepeat0000 => Sys2Proof.Machine.execQtRepeat0000 s
  | .qtCw0001 => Sys2Proof.Machine.execQtCw0001 s
  | .qtCcw0010 => Sys2Proof.Machine.execQtCcw0010 s
  | .qtJump0011 => Sys2Proof.Machine.execQtJump0011 s
  | .qtCcw0100 => Sys2Proof.Machine.execQtCcw0100 s
  | .qtRepeat0101 => Sys2Proof.Machine.execQtRepeat0101 s
  | .qtJump0110 => Sys2Proof.Machine.execQtJump0110 s
  | .qtCw0111 => Sys2Proof.Machine.execQtCw0111 s
  | .qtCw1000 => Sys2Proof.Machine.execQtCw1000 s
  | .qtJump1001 => Sys2Proof.Machine.execQtJump1001 s
  | .qtRepeat1010 => Sys2Proof.Machine.execQtRepeat1010 s
  | .qtCcw1011 => Sys2Proof.Machine.execQtCcw1011 s
  | .qtJump1100 => Sys2Proof.Machine.execQtJump1100 s
  | .qtCcw1101 => Sys2Proof.Machine.execQtCcw1101 s
  | .qtCw1110 => Sys2Proof.Machine.execQtCw1110 s
  | .qtRepeat1111 => Sys2Proof.Machine.execQtRepeat1111 s
  | .ksuMode0 => Sys2Proof.Machine.execKsuMode0 s
  | .ksuMode1 => Sys2Proof.Machine.execKsuMode1 s
  | .ksuMode2 => Sys2Proof.Machine.execKsuMode2 s
  | .ksuMode3 => Sys2Proof.Machine.execKsuMode3 s
  | .ksuPswZero => Sys2Proof.Machine.execKsuPswZero s
  | .rselR0 => Sys2Proof.Machine.execRselR0 s
  | .rselR1 => Sys2Proof.Machine.execRselR1 s
  | .rselR2 => Sys2Proof.Machine.execRselR2 s
  | .rselR3 => Sys2Proof.Machine.execRselR3 s
  | .rselR4 => Sys2Proof.Machine.execRselR4 s
  | .rselR5 => Sys2Proof.Machine.execRselR5 s
  | .rselSp => Sys2Proof.Machine.execRselSp s
  | .rselPc => Sys2Proof.Machine.execRselPc s
  | .loadAddr => Sys2Proof.Machine.execLoadAddr s
  | .exam => Sys2Proof.Machine.execExam s
  | .dep => Sys2Proof.Machine.execDep s
  | .cont h => Sys2Proof.Machine.execCont h s
  | .halt => Sys2Proof.Machine.execHalt s
  | .enable => Sys2Proof.Machine.execEnable s
  | .start => Sys2Proof.Machine.execStart s
  | .reload h => Sys2Proof.Machine.execReload h s
  | .restart h => Sys2Proof.Machine.execRestart h s
  | .test h => Sys2Proof.Machine.execTest h s
  | .phaseStopchk => Sys2Proof.Machine.execPhaseStopchk s
  | .phaseScan => Sys2Proof.Machine.execPhaseScan s
  | .phaseDecode => Sys2Proof.Machine.execPhaseDecode s
  | .phaseFeed => Sys2Proof.Machine.execPhaseFeed s
  | .phaseControl => Sys2Proof.Machine.execPhaseControl s
  | .phaseEncode => Sys2Proof.Machine.execPhaseEncode s
  | .phaseDrive => Sys2Proof.Machine.execPhaseDrive s
  | .phaseDone => Sys2Proof.Machine.execPhaseDone s
  | .resultExit => Sys2Proof.Machine.execResultExit s
  | .resultRestart => Sys2Proof.Machine.execResultRestart s
  | .resultReload => Sys2Proof.Machine.execResultReload s
  | .iter => Sys2Proof.Machine.execIter s
  | .control => Sys2Proof.Machine.execControl s
  | .haltchk scanOk => Sys2Proof.Machine.execHaltchk scanOk s
  | .sessionEnd => Sys2Proof.Machine.execSessionEnd s
  | .edgeSample k current => Sys2Proof.Machine.execEdgeSample k current s
  | .rotAddDelta n a b => Sys2Proof.Machine.execRotAddDelta n a b s
  | .scan => Sys2Proof.Machine.execScan s
  | .decode raw => Sys2Proof.Machine.execDecode raw s
  | .encode act => Sys2Proof.Machine.execEncode act s
  | .drive grid => Sys2Proof.Machine.execDrive grid s
  | .deriveKsu S => Sys2Proof.Machine.execDeriveKsu S s
  | .deriveAddr S h => Sys2Proof.Machine.execDeriveAddr S h s
  | .deriveBlink h => Sys2Proof.Machine.execDeriveBlink h s
  | .deriveData S h => Sys2Proof.Machine.execDeriveData S h s
  | .regsel S k => Sys2Proof.Machine.execRegsel S k s
  | .deriveRange S => Sys2Proof.Machine.execDeriveRange S s
  | .deriveParity => Sys2Proof.Machine.execDeriveParity s
  | .deriveAux S h => Sys2Proof.Machine.execDeriveAux S h s
  | .snapTake => Sys2Proof.Machine.execSnapTake s

end Sys2Proof.Machine
end

