-- ==== Sys2Proof/Machine/Fetch.lean ====
section
/-! DEFINITION. The model's own code-word port (log 2, log 4): FPC stores no code word (spec/30_encoding.md R90), so a
code word that is to be run by the next step stands at the head of the agenda. -/

namespace Sys2Proof.Machine

/-- The event a code word `h p rr cccc` names has occurred: the edge of the signal at cell `rr cccc` with polarity `p`
is among this iteration's outputs, and `SimHalted()` answers `h` first (R116). -/
def presentEvent (w : Nat) (s : State) : State :=
  match signalAt (w % 64) with
  | none => s
  | some k =>
    { s with
      work.edges := s.work.edges.set k { rise := w.testBit 6, fall := !w.testBit 6 }
      answers.halted := w.testBit 7 :: s.answers.halted }

/-- A code word is run within a session, in the phase that evaluates commands where none is going on. -/
def openSession (s : State) : State :=
  { s with phase := if s.phase = .done then .control else s.phase }

/-- Put a code word where the next step takes it, with what its row needs to run (log 2, log 4). -/
def presentWord (nbits w : Nat) (s : State) : State :=
  let s := openSession { s with agenda := .word nbits w :: s.agenda }
  match decodeWord nbits w with
  | .error _ => s
  | .ok i =>
    match encode i with
    | some (.ev, _) => presentEvent w s
    | _ => s

end Sys2Proof.Machine
end

