-- ==== Sys2Proof/Machine/Step.lean ====
section
/-! DEFINITION. One step of FPC: what the head of the agenda asks for; an iteration where nothing else is asked
(spec/46_iteration_sequencer.md R280, spec/60_exceptions.md R336; log 1, log 2, log 25). -/

namespace Sys2Proof.Machine

/-- One step. -/
def step (s : State) : Host.Outcome State Fault Refusal :=
  match s.agenda with
  | .word nbits w :: rest =>
    match decodeWord nbits w with
    | .ok i => exec i { s with agenda := rest }
    | .error .noCommand => .next { s with agenda := rest }
    | .error _ => .refused (.undecodable nbits w)
  | .startSession :: rest =>
    if s.phase = .done then .next (startSession { s with agenda := rest })
    else .refused .sessionStartWhileActive
  | .iteration x answers :: rest => exec .iter (arrive x answers { s with agenda := rest })
  | [] =>
    if s.phase = .done then .next s
    else exec .iter (arrive (freeInputs s.free) Answers.none { s with free := s.free + 1 })

/-- `s` with the code word where the next step takes it. -/
def State.withFetchWord (s : State) (nbits w : Nat) : State := presentWord nbits w s

end Sys2Proof.Machine
end

