-- ==== Sys2Proof/WellFormed.lean ====
section
/-! DEFINITION. Well-formed instructions. The operands' types already bound `k`, `n`, the matrices and the selectors;
what is left to check is the snapshot an operation of the derivations is given (spec/20_memory.md R69, R73). -/

namespace Sys2Proof

/-- The snapshot PC fits `W_PC` bits (spec/10_state.md R42). -/
abbrev Snapshot.PcFits (S : Snapshot) : Prop := S.pc < 2 ^ Config.wPc

/-- Every activity count lies in 0..`ACT_DEPTH` (spec/20_memory.md R73). -/
abbrev Activity.InDepth (a : Activity) : Prop := ∀ i : Fin Config.wAddr, a[i] ≤ Config.actDepth

/-- A snapshot the simulator can deliver. -/
abbrev Snapshot.WellFormed (S : Snapshot) : Prop := S.PcFits ∧ Activity.InDepth S.act

/-- An instruction whose operands are values the spec gives them. -/
abbrev WellFormed (i : Instr) : Prop :=
  match i with
  | .encode (some act) => Activity.InDepth act
  | .deriveKsu S => S.WellFormed
  | .deriveAddr S _ => S.WellFormed
  | .deriveData S _ => S.WellFormed
  | .regsel S _ => S.WellFormed
  | .deriveRange S => S.WellFormed
  | .deriveAux S _ => S.WellFormed
  | _ => True

end Sys2Proof
end

