-- ==== Sys2Proof/Safety.lean ====
section
/-! DEFINITION. What counts as a safe run of FPC, in the terms the statements use: the discipline of the panel lines on
the output trace, the least duration of a run, the named assumption `SIM_WB`, the invariant every step keeps, and the
running of a list of instructions. -/

namespace Sys2Proof.Machine

/-! ## The panel lines at every moment -/

/-- At most one bit of `v` is 1. -/
def atMostOneBit {n : Nat} (v : BitVec n) : Prop :=
  ∀ i j : Fin n, v.getLsbD i = true → v.getLsbD j = true → i = j

/-- What spec/43_light_encode_drive.md R200 and spec/42_switch_scan_decode.md R162 say of the lines at a moment: at
most one LED row energised, at most one switch row selected, and no LED row energised while the columns are inputs or a
switch row is selected. -/
def linesSafe (p : Ports) : Prop :=
  atMostOneBit p.ledrow ∧ atMostOneBit (~~~p.swrow) ∧
    (p.colDir = false ∨ p.swrow ≠ 0b111#3 → p.ledrow = 0#6)

/-- The port registers after one event of the trace. -/
def portsAfter (p : Ports) (e : Event) : Ports :=
  match e with
  | .line l => applyLine l p
  | .linesUnknown left => left
  | _ => p

/-- The port registers after each event of a trace, the first from `p`. -/
def portsAlong (p : Ports) (es : List Event) : List Ports :=
  match es with
  | [] => []
  | e :: rest => portsAfter p e :: portsAlong (portsAfter p e) rest

/-- The columns are written only while they are outputs and read only while they are inputs
(spec/20_memory.md R87). -/
def directionKept (p : Ports) (es : List Event) : Prop :=
  match es with
  | [] => True
  | e :: rest =>
    (match e with
      | .line (.colOut _) => p.colDir = true
      | .line (.readCols _) => p.colDir = false
      | _ => True) ∧ directionKept (portsAfter p e) rest

/-- No LED row is energised before `T_BLANK` has passed since its column pattern was written, and no pattern is written
while a row is energised (R196, spec/70_reset_and_hazards.md R355). `settled` says whether the wait has passed. -/
def blankingKept (p : Ports) (settled : Bool) (es : List Event) : Prop :=
  match es with
  | [] => True
  | e :: rest =>
    match e with
    | .line (.colOut v) => p.ledrow = 0#6 ∧ blankingKept (applyLine (.colOut v) p) false rest
    | .line (.ledrow v) => (v = 0#6 ∨ settled = true) ∧ blankingKept (applyLine (.ledrow v) p) settled rest
    | .wait .blank => blankingKept p true rest
    | e => blankingKept (portsAfter p e) settled rest

/-- The least duration in µs of the waits of a trace (spec/70_reset_and_hazards.md R371). -/
def leastDuration (es : List Event) : Nat :=
  match es with
  | [] => 0
  | .wait d :: rest => Config.delayUs d + leastDuration rest
  | _ :: rest => leastDuration rest

/-- No SCAN or DRIVE of the trace has failed. -/
def noIoFailure (es : List Event) : Prop := ∀ left, Event.linesUnknown left ∉ es

/-! ## The named assumption SIM_WB (spec/20_memory.md R86) -/

/-- The run state of the simulated CPU. -/
inductive RunState where
  | halted
  | running
  deriving DecidableEq, Repr

/-- The simulated CPU may halt by itself while it runs. -/
def mayHaltItself (st st' : RunState) : Prop := st' = st ∨ (st = .running ∧ st' = .halted)

/-- How one primitive call changes the run state and what `SimHalted()` may answer (W1, W2, W3, W5). -/
def runAllows (st : RunState) (c : SimCall) (st' : RunState) : Prop :=
  match c with
  | .halt => st' = .halted
  | .run => mayHaltItself .running st'
  | .singleStep => st = .halted → st' = .halted
  | .halted a => mayHaltItself st st' ∧ (a = true ↔ st' = .halted)
  | .read .. => mayHaltItself st st'
  | .write .. => mayHaltItself st st'
  | .setReg .. => mayHaltItself st st'

/-- The last successful write, while no run, step or other write has followed it (W4). -/
def lastWrite (last : Option (Addr × Word)) (c : SimCall) : Option (Addr × Word) :=
  match c with
  | .write a _ v .ok => some (a, v)
  | .write .. => none
  | .run => none
  | .singleStep => none
  | _ => last

/-- A read of the address just written gives the word written (W4). -/
def readAllows (last : Option (Addr × Word)) (c : SimCall) : Prop :=
  match c with
  | .read a _ answer => ∀ v, last = some (a, v) → answer = .ok v
  | _ => True

/-- `SIM_WB` of a sequence of primitive calls: some run of a simulator that keeps W1 to W5 gives these answers. -/
def simWB (st : RunState) (last : Option (Addr × Word)) (calls : List SimCall) : Prop :=
  match calls with
  | [] => True
  | c :: rest => readAllows last c ∧ ∃ st', runAllows st c st' ∧ simWB st' (lastWrite last c) rest

/-- The primitive calls of a trace, in order. -/
def simCallsOf (es : List Event) : List SimCall :=
  match es with
  | [] => []
  | .sim c :: rest => c :: simCallsOf rest
  | _ :: rest => simCallsOf rest

/-! ## The invariant -/

/-- No two of three flags are both true. -/
def atMostOneFlag (a b c : Bool) : Prop :=
  ¬(a = true ∧ b = true) ∧ ¬(a = true ∧ c = true) ∧ ¬(b = true ∧ c = true)

/-- A decoder between two calls: `-3 ≤ acc ≤ 3` and the position below the modulus (R37, R38). -/
def rotaryInv (m : Nat) (rot : Rotary) : Prop := -3 ≤ rot.acc ∧ rot.acc ≤ 3 ∧ rot.position < m

/-- The activity counts the environment can still deliver lie in 0..`ACT_DEPTH`. -/
def midTakeInv (m : Option MidTake) : Prop := ∀ x, m = some x → Activity.InDepth x.newer.act

/-- An entry of the agenda delivers activity counts in 0..`ACT_DEPTH` only (R73). -/
def inputInv (x : Input) : Prop :=
  match x with
  | .iteration st _ => (∀ S, st.deliver = some S → Activity.InDepth S.act) ∧ midTakeInv st.midTake
  | _ => True

/-- The invariant of FPC: the exclusive flags of spec/10_state.md R31 (as corrected by conflict C6), the decoders'
ranges R37 and R38, PanelState's copies of the positions R27, the activity counts R41, and the idle lines between steps
while no line operation has failed (R287, spec/43_light_encode_drive.md R197). -/
structure Inv (s : State) : Prop where
  modes : atMostOneFlag s.ps.flagKernel s.ps.flagSuper s.ps.flagUser
  ranges : atMostOneFlag s.ps.flagAddr16 s.ps.flagAddr18 s.ps.flagAddr22
  decoder1 : rotaryInv 8 s.rot1
  decoder2 : rotaryInv 4 s.rot2
  position1 : s.ps.r1Position = BitVec.ofNat 3 s.rot1.position
  position2 : s.ps.r2Position = BitVec.ofNat 2 s.rot2.position
  shown : Activity.InDepth s.actBuf
  mailbox : Activity.InDepth s.snap.act
  landing : midTakeInv s.midTake
  coming : ∀ x ∈ s.agenda, inputInv x
  lines : noIoFailure s.trace → s.ports = Ports.idle

/-! ## Lists of instructions -/

/-- The instructions of a list run one after the other. -/
def runAll (is : List Instr) (s : State) : Result :=
  match is with
  | [] => .next s
  | i :: rest => andThen (exec i s) (runAll rest)

/-- The 36 rows of format SW in the table's order. -/
def swRows : List Instr := swTable.map Prod.snd

/-- The 72 rows of format LED in the table's order. -/
def ledRows : List Instr := ledTable.map Prod.snd

/-! ## What one row of a matrix does -/

/-- Running `i` writes `b` into bit `n` of the switch register being assembled and changes nothing else. -/
def setsSwitchBit (i : Instr) (n : Nat) (b : Bool) (s : State) : Prop :=
  ∃ v : Addr, exec i s = .next { s with work.switches.sr := v } ∧
    ∀ j, j < 22 → v.getLsbD j = if j = n then b else s.work.switches.sr.getLsbD j

/-- Running `i` writes `b` into cell `(r, c)` of the grid and changes nothing else. -/
def setsLamp (i : Instr) (r : Fin Config.nLedRow) (c : Nat) (b : Bool) (s : State) : Prop :=
  ∃ v : Columns, exec i s = .next { s with work.grid := s.work.grid.setRow r v } ∧
    ∀ j, j < 12 → v.getLsbD j = if j = c then b else (s.work.grid.row r).getLsbD j

/-- The lamp of address bit `n` in the current state: the count where blinkenlights are shown, the address bit
otherwise (spec/30_encoding.md R99, R100; spec/43_light_encode_drive.md R182). -/
def addressShown (s : State) (n : Nat) : Bool :=
  if s.blinkActive then decide (50 < s.actBuf.getD n 0) else s.ps.address.getLsbD n

/-! ## Rotary decoders -/

/-- The decoder of encoder `n`. -/
def decoderOf (n : RotaryId) (s : State) : Rotary :=
  match n with
  | .rot1 => s.rot1
  | .rot2 => s.rot2

/-- The state with the decoder of encoder `n` replaced. -/
def withDecoder (n : RotaryId) (rot : Rotary) (s : State) : State :=
  match n with
  | .rot1 => { s with rot1 := rot }
  | .rot2 => { s with rot2 := rot }

/-- The modulus of encoder `n`: 8 and 4 (spec/00_scope.md R9). -/
def positionsOf (n : RotaryId) : Nat :=
  match n with
  | .rot1 => 8
  | .rot2 => 4

/-- The place of a quadrature state in the clockwise cycle 00, 01, 11, 10 (spec/30_encoding.md R109). -/
def grayIndex (q : BitVec 2) : Nat :=
  if q = 0b00#2 then 0 else if q = 0b01#2 then 1 else if q = 0b11#2 then 2 else 3

/-- One quarter-step clockwise is one place on in the cycle, counter-clockwise one place back; anything else is none
(R109 to R111). -/
def grayStep (old new : BitVec 2) : Int :=
  if (grayIndex old + 1) % 4 = grayIndex new then 1
  else if (grayIndex new + 1) % 4 = grayIndex old then -1
  else 0

/-- The quadrature inputs one quarter-step clockwise of `q`: 00, 01, 11, 10, 00. -/
def clockwise (q : Bool × Bool) : Bool × Bool := (q.2, !q.1)

/-- The quadrature inputs one quarter-step counter-clockwise of `q`. -/
def counterClockwise (q : Bool × Bool) : Bool × Bool := (!q.2, q.1)

/-- The inputs of `k` consecutive turns that start at `q`. -/
def turns (next : Bool × Bool → Bool × Bool) (k : Nat) (q : Bool × Bool) : List (Bool × Bool) :=
  match k with
  | 0 => []
  | k + 1 => next q :: turns next k (next q)

/-- The inputs of a list fed to decoder `n`, one ROT.ADD_DELTA each. -/
def feedAll (n : RotaryId) (inputs : List (Bool × Bool)) : List Instr :=
  inputs.map fun q => .rotAddDelta n q.1 q.2

/-- The sum of the quarter-steps of a list of inputs, from quadrature state `q`. -/
def travel (q : BitVec 2) (inputs : List (Bool × Bool)) : Int :=
  match inputs with
  | [] => 0
  | x :: rest => grayStep q (quadState x.1 x.2) + travel (quadState x.1 x.2) rest

/-- The quarter-steps of a list of inputs, added up from `acc`, never reach the threshold. -/
def belowThreshold (q : BitVec 2) (acc : Int) (inputs : List (Bool × Bool)) : Prop :=
  match inputs with
  | [] => True
  | x :: rest =>
    -4 < acc + grayStep q (quadState x.1 x.2) ∧ acc + grayStep q (quadState x.1 x.2) < 4 ∧
      belowThreshold (quadState x.1 x.2) (acc + grayStep q (quadState x.1 x.2)) rest

/-! ## Edge detectors -/

/-- The outputs of the samples of a list, taken one after the other by detector `k`. -/
def edgesOf (k : Fin 9) (samples : List Bool) (s : State) : List Edge :=
  match samples with
  | [] => []
  | c :: rest =>
    match exec (.edgeSample k c) s with
    | .next t => t.work.edges[k] :: edgesOf k rest t
    | _ => []

/-- How many false to true transitions a sequence of samples makes, from the value `previous`. -/
def risesIn (previous : Bool) (samples : List Bool) : Nat :=
  match samples with
  | [] => 0
  | c :: rest => (if previous = false ∧ c = true then 1 else 0) + risesIn c rest

/-- How many true to false transitions a sequence of samples makes, from the value `previous`. -/
def fallsIn (previous : Bool) (samples : List Bool) : Nat :=
  match samples with
  | [] => 0
  | c :: rest => (if previous = true ∧ c = false then 1 else 0) + fallsIn c rest

/-! ## The simulator -/

/-- No prepared answer is the primitive that never returns (spec/93_implementation_defined.md U16). -/
def everyCallReturns (a : Answers) : Prop :=
  ReadAnswer.never ∉ a.reads ∧ Ack.never ∉ a.writes ∧ Ack.never ∉ a.setRegs

end Sys2Proof.Machine
end

