-- ==== Sys2Proof/Certificates/Slice0/Obligations.lean ====
section
/-! DEFINITION. The statements for the provers. Each docstring says what is stated and which rules of spec/ it rests
on; OBLIGATIONS.json lists them. -/

section

open Sys2Proof Sys2Proof.Machine

/-- For every format f, word w and instruction i, the decoder reads i from the f-word w exactly when w is i's code
word of format f. So every row (with its operand h where it has one) is decoded from its own word, no two words of
one format name one row, and a word that is no row's code word is refused. [R90, R117, R119, R120, R125,
spec/30_encoding.md sections 1 to 10] -/
def Obligations.DecodeInvertsEncode : Prop :=
  ∀ (f : Format) (w : Nat) (i : Instr), Sys2Proof.decode f w = .ok i ↔ Sys2Proof.encode i = some (f, w)

/-- One word of each format, and words outside the tables: row 2 column 5 of the switch matrix, row 5 column 9 of the
LED grid, the transition 01 to 11, PSW bits 3, the PSW zero, selector 6, the event 1 0 10 0111 and the event 1 1
01 1011, phase 4, result 2; row 0 column 12 and the fourth result code select no row. [R95, R104, R109, R112,
R113, R114, R117, R119, R120] -/
def Obligations.TableWordsDecode : Prop :=
  Sys2Proof.decode .sw 0b100101 = .ok .swEnableHalt ∧ Sys2Proof.decode .led 0b1011001 = .ok .ledR1Pos7 ∧
    Sys2Proof.decode .qt 0b0111 = .ok .qtCw0111 ∧ Sys2Proof.decode .ksu 0b11 = .ok .ksuMode3 ∧
    Sys2Proof.decode .ksu16 0 = .ok .ksuPswZero ∧ Sys2Proof.decode .rsel 0b110 = .ok .rselSp ∧
    Sys2Proof.decode .ev 0b10100111 = .ok .start ∧ Sys2Proof.decode .ev 0b11011011 = .ok (.restart true) ∧
    Sys2Proof.decode .phase 4 = .ok .phaseControl ∧ Sys2Proof.decode .result 2 = .ok .resultReload ∧
    Sys2Proof.decode .sw 0b001100 = .error .impossibleCell ∧ Sys2Proof.decode .result 3 = .error .noResult

/-- For every 8-bit event word the decoder answers the command whose match and mask of the table it meets, and
otherwise that no command is selected. A step on an 8-bit word that selects no row of any format only takes the
word from the code-word port. (The port, and that a byte is also tried in the narrower formats, are the model's:
log 2, log 3, log 4. That other events change nothing is R118, which the spec marks as derived.) [R117,
spec/30_encoding.md section 9] -/
def Obligations.EventWordsMatchAndMask : Prop :=
  (∀ w, w < 256 → Sys2Proof.decode .ev w =
    if w &&& 0xFF = 0xA1 then .ok .loadAddr
    else if w &&& 0xFF = 0xA2 then .ok .exam
    else if w &&& 0xFF = 0xA3 then .ok .dep
    else if w &&& 0x7F = 0x24 then .ok (.cont (w.testBit 7))
    else if w &&& 0xFF = 0x25 then .ok .halt
    else if w &&& 0xFF = 0xE5 then .ok .enable
    else if w &&& 0xFF = 0xA7 then .ok .start
    else if w &&& 0x7F = 0x5A then .ok (.reload (w.testBit 7))
    else if w &&& 0x7F = 0x5B then .ok (.restart (w.testBit 7))
    else if w &&& 0x7F = 0x60 then .ok (.test (w.testBit 7))
    else .error .noCommand) ∧
  (∀ (s : State) (w : Nat) (rest : List Input) (e : DecodeError), s.agenda = .word 8 w :: rest → w < 256 →
    decodeWord 8 w = .error e → step s = .next { s with agenda := rest })

/-- When the word at the head of the agenda decodes to i, then i is well-formed and the step is exec of i on the state
with the word taken from the agenda; the step adds nothing else. (The code-word port is the model's own: log 2.)
[spec/30_encoding.md section 1, spec/46_iteration_sequencer.md] -/
def Obligations.StepRunsDecodedWord : Prop :=
  ∀ (s : State) (n w : Nat) (rest : List Input) (i : Instr),
    s.agenda = .word n w :: rest → decodeWord n w = .ok i →
      WellFormed i ∧ step s = exec i { s with agenda := rest }

/-- With an iteration at the head of the agenda the step is ITER of the state in which the stop request has cleared
keep_running, the column levels and the two io_ok inputs are the ones given, a delivered snapshot is in the
mailbox with snap_ready set, and the answers are the prepared ones. With an empty agenda the step is ITER with
free inputs, whose snapshots keep the bounds of R42 and R73, while a session runs, and changes nothing in P_DONE.
(The agenda and the free inputs are the model's: log 1, log 5, log 20, log 25.) [R70, R280, R311,
spec/70_reset_and_hazards.md section 1] -/
def Obligations.StepRunsIteration : Prop :=
  ∀ s : State,
    (∀ (x : Stimulus) (answers : Answers) (rest : List Input), s.agenda = .iteration x answers :: rest →
      step s = exec .iter
        { s with
          agenda := rest, keepRunning := s.keepRunning && !x.stop, colIn := x.levels
          ioOkScan := x.ioOkScan, ioOkDrive := x.ioOkDrive
          snap := x.deliver.getD s.snap, snapReady := s.snapReady || x.deliver.isSome
          midTake := x.midTake, answers := answers }) ∧
    (s.agenda = [] → s.phase = .done → step s = .next s) ∧
    (s.agenda = [] → s.phase ≠ .done → ∃ x : Stimulus,
      step s = exec .iter (arrive x Answers.none { s with free := s.free + 1 }) ∧
      (∀ S, x.deliver = some S → S.WellFormed) ∧ (∀ m, x.midTake = some m → m.newer.WellFormed))

/-- In P_DONE a session start sets the edge detectors to false, address, data, switch_state, console_address and
data_latched to 0, every PanelState flag, use_data_latched and blink_active to false, act_buf to 0, snap_ready to
false, first_iter to true and phase to P_STOPCHK. The decoders, the port registers, keep_running and
session_result keep their values. The six underived flags take some value. While a session runs, a session start
is refused. (That the copies of the rotary positions are kept is the model's reading, log 16; the refusal is U17,
log 18.) [R342, R343, R53, spec/93_implementation_defined.md U17] -/
def Obligations.SessionStartResets : Prop :=
  ∀ (s : State) (rest : List Input), s.agenda = .startSession :: rest →
    (s.phase = .done → ∃ aux : AuxFlags, step s = .next
      { s with
        agenda := rest
        ps :=
          { address := 0, data := 0, switchState := 0
            r1Position := s.ps.r1Position, r2Position := s.ps.r2Position
            flagAddr16 := false, flagAddr18 := false, flagAddr22 := false
            flagKernel := false, flagSuper := false, flagUser := false
            flagParLow := false, flagParHigh := false, aux := aux
            swTest := false, swLoadAddr := false, swExam := false, swDep := false, swCont := false
            swEnableHalt := false, swSinstSbusCycle := false, swStart := false
            r1Button := false, r2Button := false }
        consoleAddress := 0, dataLatched := 0, useDataLatched := false
        ed := Vector.replicate 9 false, blinkActive := false, actBuf := Vector.replicate 22 0
        snapReady := false, firstIter := true, phase := .stopchk, free := s.free + 1 }) ∧
    (s.phase ≠ .done → step s = .refused .sessionStartWhileActive)

/-- In a session, for a word that decodes to i: where i is no event, the step on the state with the word placed is
exec of i on the state itself. Where i is an event, it is exec of i on a state that differs from s only in that
the event has occurred: the edge its word names is in the iteration's edge outputs and SimHalted() answers the
word's bit h first. From P_DONE the phase is first made P_CONTROL. (All of this is the model's own port: log 2,
log 4.) [spec/30_encoding.md sections 1 and 8] -/
def Obligations.FetchedWordRunsNext : Prop :=
  ∀ (s : State) (n w : Nat) (i : Instr) (f : Format) (v : Nat),
    decodeWord n w = .ok i → Sys2Proof.encode i = some (f, v) →
      let u := { s with phase := if s.phase = .done then .control else s.phase }
      (f ≠ .ev → step (s.withFetchWord n w) = exec i u) ∧
      (f = .ev → ∃ k : Fin 9, signalAt (w % 64) = some k ∧
        step (s.withFetchWord n w) = exec i
          { u with
            work.edges := u.work.edges.set k { rise := w.testBit 6, fall := !w.testBit 6 }
            answers.halted := w.testBit 7 :: u.answers.halted })

/-- After power-on reset every register has the power-on value of R53: PanelState's values 0 and its derived flags
false, the console latches 0 and false, the edge detectors false, both decoders 0, blink_active false, act_buf 0,
snap_ready false, keep_running true, phase P_DONE, first_iter false, session_result EXIT, the lines idle; and a
step with nothing asked changes nothing. (Nothing is said of the values R53 leaves unspecified. The last clause
rests on the empty agenda of log 15 and on log 25.) [R53, R341] -/
def Obligations.ResetValues : Prop :=
  let s := State.reset
  s.ps = { PanelState.zero s.ps.aux with address := 0, data := 0, r1Position := 0, r2Position := 0 } ∧
    s.consoleAddress = 0 ∧ s.dataLatched = 0 ∧ s.useDataLatched = false ∧ s.ed = Vector.replicate 9 false ∧
    s.rot1 = { lastState := 0, acc := 0, position := 0 } ∧ s.rot2 = { lastState := 0, acc := 0, position := 0 } ∧
    s.blinkActive = false ∧ s.actBuf = Vector.replicate 22 0 ∧ s.snapReady = false ∧ s.keepRunning = true ∧
    s.phase = .done ∧ s.firstIter = false ∧ s.sessionResult = .exit ∧
    s.ports = { swrow := 0b111#3, colOut := 0xFFF#12, colDir := true, ledrow := 0#6 } ∧ step s = .next s

/-- Inv holds of the state after power-on reset. (The range of the accumulator in R37 is marked as derived by the
spec. Its clauses on the mailbox, on what the environment still delivers and on the trace rest on the reset values
the model chose: log 13, log 15.) [R53, R341, R31, R37, R38] -/
def Obligations.ResetKeepsInvariant : Prop :=
  Inv State.reset

/-- For every state with Inv, if the step answers a next state then Inv holds of it. Inv: at most one mode flag and at
most one range flag is true, both accumulators lie in -3..3 and both positions below their moduli, PanelState's
positions are copies of the decoders', every activity count in act_buf, in the mailbox and still to be delivered
lies in 0..ACT_DEPTH, and while no line operation has failed the port registers are idle between steps. (R31 as
corrected by conflict C6; several of the rules are marked as derived by the spec.) [R27, R31, R37, R38, R41, R73,
R145, R164, R197, R268, R287] -/
def Obligations.StepKeepsInvariant : Prop :=
  ∀ s t : State, Inv s → step s = .next t → Inv t

/-- For each of the rows SW_SR0 to SW_SR11 the cell (0, c) of the raw matrix goes to bit c of the switch register
being assembled, for SW_SR12 to SW_SR21 the cell (1, c) goes to bit 12 + c; every other bit and everything else in
the state is unchanged, and the row always completes. (That a row of format SW can be run alone is the model's:
log 26.) [R92, R93] -/
def Obligations.SwitchRegisterRows : Prop :=
  ∀ s : State,
    (∀ x ∈ ([(.swSr0, 0), (.swSr1, 1), (.swSr2, 2), (.swSr3, 3), (.swSr4, 4), (.swSr5, 5),
      (.swSr6, 6), (.swSr7, 7), (.swSr8, 8), (.swSr9, 9), (.swSr10, 10), (.swSr11, 11)] : List (Instr × Nat)),
      setsSwitchBit x.1 x.2 (s.work.raw.row0.getLsbD x.2) s) ∧
    (∀ x ∈ ([(.swSr12, 0), (.swSr13, 1), (.swSr14, 2), (.swSr15, 3), (.swSr16, 4), (.swSr17, 5),
      (.swSr18, 6), (.swSr19, 7), (.swSr20, 8), (.swSr21, 9)] : List (Instr × Nat)),
      setsSwitchBit x.1 (12 + x.2) (s.work.raw.row1.getLsbD x.2) s)

/-- Each row writes the one flag its cell feeds: row 1 columns 10 and 11 the two push-buttons, row 2 columns 0 to 7
the eight control switches in the source's order, row 2 columns 8 to 11 the quadrature inputs; nothing else
changes. (That a row can be run alone is the model's: log 26.) [R94, R95, R96] -/
def Obligations.ControlSwitchRows : Prop :=
  ∀ s : State,
    exec .swR1Button s = .next { s with work.switches.r1Button := s.work.raw.row1.getLsbD 10 } ∧
    exec .swR2Button s = .next { s with work.switches.r2Button := s.work.raw.row1.getLsbD 11 } ∧
    exec .swTest s = .next { s with work.switches.swTest := s.work.raw.row2.getLsbD 0 } ∧
    exec .swLoadAddr s = .next { s with work.switches.swLoadAddr := s.work.raw.row2.getLsbD 1 } ∧
    exec .swExam s = .next { s with work.switches.swExam := s.work.raw.row2.getLsbD 2 } ∧
    exec .swDep s = .next { s with work.switches.swDep := s.work.raw.row2.getLsbD 3 } ∧
    exec .swCont s = .next { s with work.switches.swCont := s.work.raw.row2.getLsbD 4 } ∧
    exec .swEnableHalt s = .next { s with work.switches.swEnableHalt := s.work.raw.row2.getLsbD 5 } ∧
    exec .swSinstSbusCycle s = .next { s with work.switches.swSinstSbusCycle := s.work.raw.row2.getLsbD 6 } ∧
    exec .swStart s = .next { s with work.switches.swStart := s.work.raw.row2.getLsbD 7 } ∧
    exec .swQ1a s = .next { s with work.switches.q1a := s.work.raw.row2.getLsbD 8 } ∧
    exec .swQ1b s = .next { s with work.switches.q1b := s.work.raw.row2.getLsbD 9 } ∧
    exec .swQ2a s = .next { s with work.switches.q2a := s.work.raw.row2.getLsbD 10 } ∧
    exec .swQ2b s = .next { s with work.switches.q2b := s.work.raw.row2.getLsbD 11 }

/-- For every raw matrix and state DECODE completes; bit c of the switch register is raw[0][c] for c below 12 and bit
12 + c is raw[1][c] for c below 10; the buttons, control switches and quadrature inputs are the cells R168 lists;
nothing but what DECODE returns is written. [R92, R93, R168] -/
def Obligations.DecodePlacesEveryCell : Prop :=
  ∀ (raw : SwitchMatrix) (s : State), ∃ sr : Addr,
    (∀ c, c < 12 → sr.getLsbD c = raw.row0.getLsbD c) ∧ (∀ c, c < 10 → sr.getLsbD (12 + c) = raw.row1.getLsbD c) ∧
    exec (.decode raw) s = .next
      { s with
        work.switches :=
          { sr := sr, r1Button := raw.row1.getLsbD 10, r2Button := raw.row1.getLsbD 11
            swTest := raw.row2.getLsbD 0, swLoadAddr := raw.row2.getLsbD 1, swExam := raw.row2.getLsbD 2
            swDep := raw.row2.getLsbD 3, swCont := raw.row2.getLsbD 4, swEnableHalt := raw.row2.getLsbD 5
            swSinstSbusCycle := raw.row2.getLsbD 6, swStart := raw.row2.getLsbD 7
            q1a := raw.row2.getLsbD 8, q1b := raw.row2.getLsbD 9
            q2a := raw.row2.getLsbD 10, q2b := raw.row2.getLsbD 11 } }

/-- Running the 36 rows of format SW in the table's order gives the same state as DECODE of the same raw matrix,
whatever the decoded switches were before. (That a row can be run alone is the model's: log 26. R91 is marked as
derived by the spec.) [R91, R167, R168] -/
def Obligations.DecodeEqualsItsRows : Prop :=
  ∀ s : State, runAll swRows s = exec (.decode s.work.raw) s

/-- In a session: P_DECODE is DECODE of this iteration's raw matrix and then the switch fields of PanelState take what
it returned; P_FEED is one ROT.ADD_DELTA for encoder 1 with q1a, q1b and one for encoder 2 with q2a, q2b, and then
PanelState's positions are the decoders'; P_ENCODE is ENCODE of PanelState with act_buf while blink_active,
without it otherwise. Nothing else changes but phase. (That P_DECODE, P_FEED and P_ENCODE can be run alone, as
rows, on the iteration's values is the model's: log 8, log 26. That the positions shown are the decoders' is R148,
which the spec marks as derived.) [R147, R169, R182, R285, spec/41_rotary_decoder.md R148] -/
def Obligations.PanelPhases : Prop :=
  ∀ s : State, s.phase ≠ .done →
    (∃ u, exec (.decode s.work.raw) { s with phase := .decode } = .next u ∧
      exec .phaseDecode s = .next
        { u with
          ps := { s.ps with
                  switchState := u.work.switches.sr
                  swTest := u.work.switches.swTest, swLoadAddr := u.work.switches.swLoadAddr
                  swExam := u.work.switches.swExam, swDep := u.work.switches.swDep
                  swCont := u.work.switches.swCont, swEnableHalt := u.work.switches.swEnableHalt
                  swSinstSbusCycle := u.work.switches.swSinstSbusCycle, swStart := u.work.switches.swStart
                  r1Button := u.work.switches.r1Button, r2Button := u.work.switches.r2Button } }) ∧
    (∃ u v, exec (.rotAddDelta .rot1 s.work.switches.q1a s.work.switches.q1b) { s with phase := .feed } = .next u ∧
      exec (.rotAddDelta .rot2 s.work.switches.q2a s.work.switches.q2b) u = .next v ∧
      exec .phaseFeed s = .next
        { v with
          ps := { s.ps with
                  r1Position := BitVec.ofNat 3 v.rot1.position, r2Position := BitVec.ofNat 2 v.rot2.position } }) ∧
    (∃ u, exec (.encode (if s.blinkActive then some s.actBuf else none)) { s with phase := .encode } = .next u ∧
      exec .phaseEncode s = .next u)

/-- A SCAN whose line operations succeed makes the columns inputs, then for rows 0, 1, 2 in order drives that row low,
waits T_SETTLE, reads the columns and restores the row, then deactivates all rows, waits T_MODE_PAUSE, makes the
columns outputs and writes them high. raw[r][c] is the complement of the level read. Nothing else changes. At
every moment at most one bit of SWROW is 0 when SCAN is entered with all rows high, and the columns are read only
as inputs and written only as outputs. P_SCAN is SCAN in a session. (That P_SCAN can be run alone is the model's:
log 26.) [R87, R162, R163, R280] -/
def Obligations.ScanReadsTheMatrix : Prop :=
  ∀ s : State, s.ioOkScan = true →
    let row := fun (sel : BitVec 3) (v : Columns) =>
      ([.line (.swrow sel), .wait .settle, .line (.readCols v), .line (.swrow 0b111#3)] : List Event)
    let es : List Event :=
      Event.line (.colDir false) :: row 0b110#3 s.colIn.row0 ++ row 0b101#3 s.colIn.row1 ++ row 0b011#3 s.colIn.row2 ++
        ([.line (.swrow 0b111#3), .wait .modePause, .line (.colDir true), .line (.colOut 0xFFF#12)] : List Event)
    let after := fun u : State =>
      { u with
        scanRow := 2
        ports := { u.ports with swrow := 0b111#3, colDir := true, colOut := 0xFFF#12 }
        work.raw := ⟨~~~s.colIn.row0, ~~~s.colIn.row1, ~~~s.colIn.row2⟩
        work.scanOk := true
        trace := u.trace ++ es }
    exec .scan s = .next (after s) ∧
      (s.phase ≠ .done → exec .phaseScan s = .next (after { s with phase := .scan })) ∧
      (s.ports.swrow = 0b111#3 → ∀ p ∈ portsAlong s.ports es, atMostOneBit (~~~p.swrow)) ∧
      directionKept s.ports es

/-- A SCAN or DRIVE with a failing line operation completes with result false: the failure is recorded, an error is
logged, the port registers hold some levels and the loop index some value, and nothing else changes: PanelState,
the decoders and first_iter keep their values. P_SCAN and P_DRIVE do the same in a session. (What the levels and
the loop index are is free: U7, log 9. That P_SCAN and P_DRIVE can be run alone, as rows, is the model's: log 26.
The events that record the failure are log 7.) [R166, R199, R301, spec/93_implementation_defined.md U7] -/
def Obligations.FailedScanAndDrive : Prop :=
  ∀ s : State,
    let after := fun (p : IoPhase) (left : Ports) (u : State) =>
      { u with
        ports := left, free := u.free + 1
        trace := u.trace ++ [.linesUnknown left, .failure (.io p), .log .error (.ioFailure p)] }
    (s.ioOkScan = false → ∃ (left : Ports) (r : Fin 3),
      exec .scan s = .next (after .scan left { s with scanRow := r, work.scanOk := false }) ∧
      (s.phase ≠ .done →
        exec .phaseScan s = .next (after .scan left { s with phase := .scan, scanRow := r, work.scanOk := false }))) ∧
    (s.ioOkDrive = false → ∃ (left : Ports) (r : Fin 6),
      (∀ grid, exec (.drive grid) s = .next (after .drive left { s with ledRow := r, work.driveOk := false })) ∧
      (s.phase ≠ .done →
        exec .phaseDrive s = .next (after .drive left { s with phase := .drive, ledRow := r, work.driveOk := false })))

/-- Each of the 16 transitions gives the delta of the table of R111 (+1 clockwise, -1 counter-clockwise, 0 for repeats
and two-bit changes). Each KSU row sets the flag of its mode and clears the others, all false where the PSW taken
is zero; KSU.PSW_ZERO clears all three. Each RSEL row shows R0 to R5, SP, or the low 16 bits of the PC of the
snapshot taken. Nothing else changes. (That a row can be run alone, on the snapshot this iteration took, is the
model's: log 26, log 28.) [R109, R111, R112, R113, R114, spec/30_encoding.md section 4] -/
def Obligations.TransitionModeAndRegisterRows : Prop :=
  ∀ s : State,
    exec .qtRepeat0000 s = .next { s with work.delta := 0 } ∧
    exec .qtCw0001 s = .next { s with work.delta := 1 } ∧
    exec .qtCcw0010 s = .next { s with work.delta := -1 } ∧
    exec .qtJump0011 s = .next { s with work.delta := 0 } ∧
    exec .qtCcw0100 s = .next { s with work.delta := -1 } ∧
    exec .qtRepeat0101 s = .next { s with work.delta := 0 } ∧
    exec .qtJump0110 s = .next { s with work.delta := 0 } ∧
    exec .qtCw0111 s = .next { s with work.delta := 1 } ∧
    exec .qtCw1000 s = .next { s with work.delta := 1 } ∧
    exec .qtJump1001 s = .next { s with work.delta := 0 } ∧
    exec .qtRepeat1010 s = .next { s with work.delta := 0 } ∧
    exec .qtCcw1011 s = .next { s with work.delta := -1 } ∧
    exec .qtJump1100 s = .next { s with work.delta := 0 } ∧
    exec .qtCcw1101 s = .next { s with work.delta := -1 } ∧
    exec .qtCw1110 s = .next { s with work.delta := 1 } ∧
    exec .qtRepeat1111 s = .next { s with work.delta := 0 } ∧
    exec .ksuMode0 s = .next
      { s with ps := { s.ps with flagKernel := decide (s.work.snap.psw ≠ 0), flagSuper := false, flagUser := false } } ∧
    exec .ksuMode1 s = .next
      { s with ps := { s.ps with flagKernel := false, flagSuper := decide (s.work.snap.psw ≠ 0), flagUser := false } } ∧
    exec .ksuMode2 s = .next { s with ps := { s.ps with flagKernel := false, flagSuper := false, flagUser := false } } ∧
    exec .ksuMode3 s = .next
      { s with ps := { s.ps with flagKernel := false, flagSuper := false, flagUser := decide (s.work.snap.psw ≠ 0) } } ∧
    exec .ksuPswZero s = .next { s with ps := { s.ps with flagKernel := false, flagSuper := false, flagUser := false } } ∧
    exec .rselR0 s = .next { s with work.regValue := s.work.snap.r[0] } ∧
    exec .rselR1 s = .next { s with work.regValue := s.work.snap.r[1] } ∧
    exec .rselR2 s = .next { s with work.regValue := s.work.snap.r[2] } ∧
    exec .rselR3 s = .next { s with work.regValue := s.work.snap.r[3] } ∧
    exec .rselR4 s = .next { s with work.regValue := s.work.snap.r[4] } ∧
    exec .rselR5 s = .next { s with work.regValue := s.work.snap.r[5] } ∧
    exec .rselSp s = .next { s with work.regValue := s.work.snap.r[6] } ∧
    exec .rselPc s = .next { s with work.regValue := BitVec.ofNat 16 (s.work.snap.pc % 2 ^ 16) }

/-- The new quadrature state is (a << 1) | b and is always stored; the accumulator changes by the quarter-step between
the states; where it reaches +4 or -4 the position moves by one modulo 8 or 4 and the accumulator becomes 0. Only
the three registers of the instance change (and the value the lookup returned). [R141] -/
def Obligations.AddDeltaFollowsThePseudocode : Prop :=
  ∀ (n : RotaryId) (a b : Bool) (s : State),
    let old := decoderOf n s
    let new : BitVec 2 := BitVec.ofNat 2 (2 * a.toNat + b.toNat)
    let d := grayStep old.lastState new
    let m := positionsOf n
    exec (.rotAddDelta n a b) s = .next (withDecoder n
      (if 4 ≤ old.acc + d then { lastState := new, acc := 0, position := (old.position + 1) % m }
       else if old.acc + d ≤ -4 then { lastState := new, acc := 0, position := (old.position + m - 1) % m }
       else { lastState := new, acc := old.acc + d, position := old.position })
      { s with work.delta := d })

/-- From an accumulator of 0, 4k consecutive clockwise quarter-steps move the position on by k modulo the modulus and
4k counter-clockwise ones move it back by k, leaving the accumulator 0 and the quadrature state as it was. Any
sequence of inputs whose quarter-steps never add up to the threshold leaves the position unchanged, and the
accumulator is their sum. [R150] -/
def Obligations.FourQuarterStepsMoveOnePosition : Prop :=
  ∀ (n : RotaryId) (s : State),
    let old := decoderOf n s
    (∀ (q : Bool × Bool) (k : Nat), old.lastState = quadState q.1 q.2 → old.acc = 0 →
      old.position < positionsOf n →
      (∃ t, runAll (feedAll n (turns clockwise (4 * k) q)) s = .next t ∧
        decoderOf n t =
          { lastState := old.lastState, acc := 0, position := (old.position + k) % positionsOf n }) ∧
      (∃ t, runAll (feedAll n (turns counterClockwise (4 * k) q)) s = .next t ∧
        decoderOf n t =
          { lastState := old.lastState, acc := 0
            position := (old.position + k * (positionsOf n - 1)) % positionsOf n })) ∧
    (∀ inputs : List (Bool × Bool), belowThreshold old.lastState old.acc inputs →
      ∃ t, runAll (feedAll n inputs) s = .next t ∧ (decoderOf n t).position = old.position ∧
        (decoderOf n t).acc = old.acc + travel old.lastState inputs)

/-- Two decoders that agree in accumulator and position and hold complementary quadrature states still do after any
sequence of inputs fed to the one and its complement fed to the other. Two decoders with opposite accumulators,
opposite positions and exchanged quadrature states still are so after any sequence fed to the one and the same
with a and b exchanged fed to the other. (R151 is marked as derived by the spec.) [spec/41_rotary_decoder.md R151] -/
def Obligations.RotaryPolarity : Prop :=
  ∀ (n : RotaryId) (inputs : List (Bool × Bool)) (s u : State),
    ((decoderOf n u).lastState = ~~~(decoderOf n s).lastState → (decoderOf n u).acc = (decoderOf n s).acc →
      (decoderOf n u).position = (decoderOf n s).position →
      ∃ t v, runAll (feedAll n inputs) s = .next t ∧
        runAll (feedAll n (inputs.map fun q => (!q.1, !q.2))) u = .next v ∧
        (decoderOf n v).lastState = ~~~(decoderOf n t).lastState ∧
        (decoderOf n v).acc = (decoderOf n t).acc ∧ (decoderOf n v).position = (decoderOf n t).position) ∧
    (∀ q : Bool × Bool, (decoderOf n s).lastState = quadState q.1 q.2 → (decoderOf n u).lastState = quadState q.2 q.1 →
      (decoderOf n u).acc = -(decoderOf n s).acc →
      ((decoderOf n u).position + (decoderOf n s).position) % positionsOf n = 0 →
      ∃ t v, runAll (feedAll n inputs) s = .next t ∧
        runAll (feedAll n (inputs.map fun q => (q.2, q.1))) u = .next v ∧
        (∃ r : Bool × Bool, (decoderOf n t).lastState = quadState r.1 r.2 ∧
          (decoderOf n v).lastState = quadState r.2 r.1) ∧
        (decoderOf n v).acc = -(decoderOf n t).acc ∧
        ((decoderOf n v).position + (decoderOf n t).position) % positionsOf n = 0)

/-- EDGE.SAMPLE(k, current) gives rise = current and not previous, fall = not current and previous, stores current
unconditionally, and changes nothing else. [R130] -/
def Obligations.EdgeSampleOutputs : Prop :=
  ∀ (k : Fin 9) (current : Bool) (s : State), exec (.edgeSample k current) s = .next
    { s with
      work.edges := s.work.edges.set k { rise := current && !s.ed[k], fall := !current && s.ed[k] }
      ed := s.ed.set k current }

/-- For every sequence of samples taken by a detector, there is one pair of outputs for each sample; rise is true at a
sample exactly when it is true and the value before it was false, so the rises are as many as the false to true
transitions; the same for fall with true and false exchanged; the two are never both true. [R135] -/
def Obligations.EdgesFireOncePerTransition : Prop :=
  ∀ (k : Fin 9) (samples : List Bool) (s : State),
    let es := edgesOf k samples s
    es.length = samples.length ∧
      (∀ j, j < samples.length →
        (es.map Edge.rise)[j]? = some (samples.getD j false && !(s.ed[k] :: samples).getD j false) ∧
        (es.map Edge.fall)[j]? = some (!samples.getD j false && (s.ed[k] :: samples).getD j false)) ∧
      es.countP Edge.rise = risesIn s.ed[k] samples ∧ es.countP Edge.fall = fallsIn s.ed[k] samples ∧
      ∀ e ∈ es, ¬(e.rise = true ∧ e.fall = true)

/-- DERIVE.KSU(S) sets kernel, super or user where bits 15:14 of the PSW, read as a number, are 0, 1 or 3 and the PSW
is not zero; all other mode flags are false; nothing else changes. [R252] -/
def Obligations.DeriveKsuModeFlags : Prop :=
  ∀ (S : Snapshot) (s : State),
    let m := S.psw.toNat / 2 ^ 14
    exec (.deriveKsu S) s = .next
      { s with
        ps := { s.ps with
                flagKernel := decide (S.psw.toNat ≠ 0 ∧ m = 0)
                flagSuper := decide (S.psw.toNat ≠ 0 ∧ m = 1)
                flagUser := decide (S.psw.toNat ≠ 0 ∧ m = 3) } }

/-- REGSEL(S, k) returns S.R[k] for k from 0 to 6 and S.PC[15:0] for k = 7; nothing else changes. [R260] -/
def Obligations.RegselShowsRegister : Prop :=
  ∀ (S : Snapshot) (k : Fin 8) (s : State), exec (.regsel S (BitVec.ofFin k)) s = .next
    { s with work.regValue := if k = 7 then BitVec.ofNat 16 (S.pc % 2 ^ 16) else S.r[k] }

/-- The displayed address is console_address while halted or at position 3, and the low 22 bits of the snapshot PC at
every other position while running. blink_active is true exactly while running at another position than 3.
DERIVE.AUX gives the six underived flags some value (AUX_STATUS is open: log 10). Nothing else changes. [R254,
R256, R266] -/
def Obligations.DeriveAddressBlinkAux : Prop :=
  ∀ (S : Snapshot) (h : Bool) (s : State),
    exec (.deriveAddr S h) s = .next
      { s with
        ps.address := if h = true ∨ s.ps.r1Position = 3#3 then s.consoleAddress else BitVec.ofNat 22 (S.pc % 2 ^ 22) } ∧
    exec (.deriveBlink h) s = .next { s with blinkActive := decide (h = false ∧ s.ps.r1Position ≠ 3#3) } ∧
    ∃ aux : AuxFlags, exec (.deriveAux S h) s = .next { s with ps.aux := aux, free := s.free + 1 }

/-- At rotary-2 position 3 the selected register is shown (7: the low 16 bits of the PC); else the latch while it is
owned; else while halted the low 16 bits of the switch register; else data is unchanged. Nothing else changes.
[R258] -/
def Obligations.DeriveDataFourCases : Prop :=
  ∀ (S : Snapshot) (h : Bool) (s : State),
    let k : Fin 8 := Fin.ofNat 8 s.ps.switchState.toNat
    exec (.deriveData S h) s = .next
      { s with
        ps.data :=
          if s.ps.r2Position = 3#2 then (if k = 7 then BitVec.ofNat 16 (S.pc % 2 ^ 16) else S.r[k])
          else if s.useDataLatched = true then s.dataLatched
          else if h = true then BitVec.ofNat 16 (s.ps.switchState.toNat % 2 ^ 16)
          else s.ps.data }

/-- DERIVE.RANGE(S) sets addr16 when the PC is below 2^16, addr18 when it is from 2^16 to below 2^18, addr22 when it
is 2^18 or more, for the full untruncated PC; after it exactly one of the three is true; nothing else changes.
[R262] -/
def Obligations.DeriveRangeExactlyOne : Prop :=
  ∀ (S : Snapshot) (s : State), ∃ t, exec (.deriveRange S) s = .next t ∧
    t = { s with
          ps := { s.ps with
                  flagAddr16 := decide (S.pc < 65536)
                  flagAddr18 := decide (65536 ≤ S.pc ∧ S.pc < 262144)
                  flagAddr22 := decide (262144 ≤ S.pc) } } ∧
    [t.ps.flagAddr16, t.ps.flagAddr18, t.ps.flagAddr22].count true = 1

/-- While blink_active is false, par_low is true exactly when an odd number of bits 7:0 of the displayed data are 1
and par_high exactly when an odd number of bits 13:8 are; while it is true both keep their values. Nothing else
changes. [R264] -/
def Obligations.DeriveParityCountsBits : Prop :=
  ∀ s : State,
    (s.blinkActive = false → exec .deriveParity s = .next
      { s with
        ps := { s.ps with
                flagParLow := decide ((List.range 8).countP (fun i => s.ps.data.getLsbD i) % 2 = 1)
                flagParHigh := decide ((List.range 6).countP (fun i => s.ps.data.getLsbD (8 + i)) % 2 = 1) } }) ∧
    (s.blinkActive = true → exec .deriveParity s = .next s)

/-- The row of address bit n (cell (0, n) for n below 12, cell (1, n - 12) above) lights its cell exactly when the
address bit is 1, or while blink_active when the count of bit n exceeds 50. Every other cell and everything else
is unchanged. (The cells are decision D12; that a row can be run alone, with the activity buffer by blink_active,
is the model's: log 26.) [R98, R99, R100, R182] -/
def Obligations.AddressLampRows : Prop :=
  ∀ s : State,
    (∀ x ∈ ([(.ledAddrbit0, 0), (.ledAddrbit1, 1), (.ledAddrbit2, 2), (.ledAddrbit3, 3), (.ledAddrbit4, 4),
      (.ledAddrbit5, 5), (.ledAddrbit6, 6), (.ledAddrbit7, 7), (.ledAddrbit8, 8), (.ledAddrbit9, 9),
      (.ledAddrbit10, 10), (.ledAddrbit11, 11)] : List (Instr × Nat)),
      setsLamp x.1 0 x.2 (addressShown s x.2) s) ∧
    (∀ x ∈ ([(.ledAddrbit12, 0), (.ledAddrbit13, 1), (.ledAddrbit14, 2), (.ledAddrbit15, 3), (.ledAddrbit16, 4),
      (.ledAddrbit17, 5), (.ledAddrbit18, 6), (.ledAddrbit19, 7), (.ledAddrbit20, 8), (.ledAddrbit21, 9)] : List (Instr × Nat)),
      setsLamp x.1 1 x.2 (addressShown s (12 + x.2)) s)

/-- Each row of LED row 2 shows its status flag in the order of R101, the data rows show data bits 0 to 15 in row 3
and row 4 columns 0 to 3, the parity rows show the parity flags, the rotary rows light exactly at their position,
and the eight cells with no function are dark. Every other cell and everything else is unchanged. (That a row can
be run alone is the model's: log 26.) [R101, R102, R103, R104, R105, R106] -/
def Obligations.FlagDataAndRotaryLampRows : Prop :=
  ∀ s : State,
    setsLamp .ledFlagAddr22 2 0 s.ps.flagAddr22 s ∧
    setsLamp .ledFlagAddr18 2 1 s.ps.flagAddr18 s ∧
    setsLamp .ledFlagAddr16 2 2 s.ps.flagAddr16 s ∧
    setsLamp .ledFlagData 2 3 s.ps.aux.data s ∧
    setsLamp .ledFlagKernel 2 4 s.ps.flagKernel s ∧
    setsLamp .ledFlagSuper 2 5 s.ps.flagSuper s ∧
    setsLamp .ledFlagUser 2 6 s.ps.flagUser s ∧
    setsLamp .ledFlagMaster 2 7 s.ps.aux.master s ∧
    setsLamp .ledFlagPause 2 8 s.ps.aux.pause s ∧
    setsLamp .ledFlagRun 2 9 s.ps.aux.run s ∧
    setsLamp .ledFlagAddrErr 2 10 s.ps.aux.addrErr s ∧
    setsLamp .ledFlagParErr 2 11 s.ps.aux.parErr s ∧
    (∀ x ∈ ([(.ledData0, 0), (.ledData1, 1), (.ledData2, 2), (.ledData3, 3), (.ledData4, 4), (.ledData5, 5),
      (.ledData6, 6), (.ledData7, 7), (.ledData8, 8), (.ledData9, 9), (.ledData10, 10), (.ledData11, 11)] : List (Instr × Nat)),
      setsLamp x.1 3 x.2 (s.ps.data.getLsbD x.2) s) ∧
    (∀ x ∈ ([(.ledData12, 0), (.ledData13, 1), (.ledData14, 2), (.ledData15, 3)] : List (Instr × Nat)),
      setsLamp x.1 4 x.2 (s.ps.data.getLsbD (12 + x.2)) s) ∧
    setsLamp .ledParLow 4 4 s.ps.flagParLow s ∧ setsLamp .ledParHigh 4 5 s.ps.flagParHigh s ∧
    setsLamp .ledR1Pos0 4 6 (decide (s.ps.r1Position = 0#3)) s ∧
    setsLamp .ledR1Pos1 4 7 (decide (s.ps.r1Position = 1#3)) s ∧
    setsLamp .ledR1Pos2 4 8 (decide (s.ps.r1Position = 2#3)) s ∧
    setsLamp .ledR1Pos3 4 9 (decide (s.ps.r1Position = 3#3)) s ∧
    setsLamp .ledR1Pos4 5 6 (decide (s.ps.r1Position = 4#3)) s ∧
    setsLamp .ledR1Pos5 5 7 (decide (s.ps.r1Position = 5#3)) s ∧
    setsLamp .ledR1Pos6 5 8 (decide (s.ps.r1Position = 6#3)) s ∧
    setsLamp .ledR1Pos7 5 9 (decide (s.ps.r1Position = 7#3)) s ∧
    setsLamp .ledR2Pos0 4 10 (decide (s.ps.r2Position = 0#2)) s ∧
    setsLamp .ledR2Pos1 4 11 (decide (s.ps.r2Position = 1#2)) s ∧
    setsLamp .ledR2Pos2 5 10 (decide (s.ps.r2Position = 2#2)) s ∧
    setsLamp .ledR2Pos3 5 11 (decide (s.ps.r2Position = 3#2)) s ∧
    setsLamp .ledUnused1At10 1 10 false s ∧
    setsLamp .ledUnused1At11 1 11 false s ∧
    setsLamp .ledUnused5At0 5 0 false s ∧
    setsLamp .ledUnused5At1 5 1 false s ∧
    setsLamp .ledUnused5At2 5 2 false s ∧
    setsLamp .ledUnused5At3 5 3 false s ∧
    setsLamp .ledUnused5At4 5 4 false s ∧
    setsLamp .ledUnused5At5 5 5 false s

/-- For every PanelState and optional activity buffer ENCODE completes and returns the grid of R181: rows 0 and 1 the
address bits or the counts above 50, row 2 the twelve status flags, row 3 and row 4 columns 0 to 3 the data bits,
row 4 columns 4 and 5 the parity flags, the rotary indicators at their positions, the eight unused cells dark.
Nothing but the grid is written. [R99, R100, R102, R181, R184] -/
def Obligations.EncodePlacesEveryCell : Prop :=
  ∀ (act : Option Activity) (s : State),
    let lamp := fun i : Nat =>
      match act with
      | none => s.ps.address.getLsbD i
      | some a => decide (50 < a.getD i 0)
    ∃ g : LedGrid, exec (.encode act) s = .next { s with work.grid := g } ∧
      (∀ i, i < 12 → g.row0.getLsbD i = lamp i) ∧ (∀ i, i < 10 → g.row1.getLsbD i = lamp (12 + i)) ∧
      g.row1.getLsbD 10 = false ∧ g.row1.getLsbD 11 = false ∧
      (List.range 12).map g.row2.getLsbD =
        [s.ps.flagAddr22, s.ps.flagAddr18, s.ps.flagAddr16, s.ps.aux.data, s.ps.flagKernel, s.ps.flagSuper,
          s.ps.flagUser, s.ps.aux.master, s.ps.aux.pause, s.ps.aux.run, s.ps.aux.addrErr, s.ps.aux.parErr] ∧
      (∀ c, c < 12 → g.row3.getLsbD c = s.ps.data.getLsbD c) ∧
      (∀ c, c < 4 → g.row4.getLsbD c = s.ps.data.getLsbD (12 + c)) ∧
      g.row4.getLsbD 4 = s.ps.flagParLow ∧ g.row4.getLsbD 5 = s.ps.flagParHigh ∧
      (∀ p, p < 4 → g.row4.getLsbD (6 + p) = decide (s.ps.r1Position.toNat = p) ∧
        g.row5.getLsbD (6 + p) = decide (s.ps.r1Position.toNat = 4 + p)) ∧
      (∀ q, q < 2 → g.row4.getLsbD (10 + q) = decide (s.ps.r2Position.toNat = q) ∧
        g.row5.getLsbD (10 + q) = decide (s.ps.r2Position.toNat = 2 + q)) ∧
      (∀ c, c < 6 → g.row5.getLsbD c = false)

/-- In every grid ENCODE returns, for every position of both rotary switches, exactly one of the eight cells in
columns 6 to 9 of rows 4 and 5 is lit and exactly one of the four cells in columns 10 and 11 of rows 4 and 5.
[R183] -/
def Obligations.EncodeOneHot : Prop :=
  ∀ (act : Option Activity) (s : State), ∃ g : LedGrid, exec (.encode act) s = .next { s with work.grid := g } ∧
    ([6, 7, 8, 9].countP g.row4.getLsbD + [6, 7, 8, 9].countP g.row5.getLsbD = 1) ∧
    ([10, 11].countP g.row4.getLsbD + [10, 11].countP g.row5.getLsbD = 1)

/-- Running the 72 rows of format LED in the table's order gives the same state as ENCODE with the activity buffer
while blink_active and without it otherwise, whatever the grid was before. (That a row can be run alone is the
model's: log 26.) [R181, R182] -/
def Obligations.EncodeEqualsItsRows : Prop :=
  ∀ s : State, runAll ledRows s = exec (.encode (if s.blinkActive then some s.actBuf else none)) s

/-- A DRIVE whose line operations succeed forces all LED rows off, then for rows 0 to 5 in order writes the inverse of
the row's pattern to the columns, waits T_BLANK, energises the row, waits T_VIS and de-energises it, and last
writes the columns high. Nothing else changes. No row is energised before T_BLANK has passed since its pattern was
written, no pattern is written while a row is energised, and at most one row is energised at any moment. P_DRIVE
is DRIVE of the grid ENCODE returned, in a session. (That at most one row is energised is R200, which the spec
marks as derived; that P_DRIVE can be run alone is the model's: log 26.) [R190, R195, R196, R285,
spec/43_light_encode_drive.md R200] -/
def Obligations.DriveSequence : Prop :=
  ∀ s : State, s.ioOkDrive = true →
    let row := fun (cells : Columns) (sel : BitVec 6) =>
      ([.line (.colOut (~~~cells)), .wait .blank, .line (.ledrow sel), .wait .vis, .line (.ledrow 0#6)] : List Event)
    let es := fun g : LedGrid =>
      (Event.line (.ledrow 0#6) :: row g.row0 0b000001#6 ++ row g.row1 0b000010#6 ++ row g.row2 0b000100#6 ++
        row g.row3 0b001000#6 ++ row g.row4 0b010000#6 ++ row g.row5 0b100000#6 ++
        ([.line (.colOut 0xFFF#12)] : List Event))
    let after := fun (g : LedGrid) (u : State) =>
      { u with
        ledRow := 5, ports := { u.ports with colOut := 0xFFF#12, ledrow := 0#6 }
        work.driveOk := true, trace := u.trace ++ es g }
    (∀ g, exec (.drive g) s = .next (after g s)) ∧
      (s.phase ≠ .done → exec .phaseDrive s = .next (after s.work.grid { s with phase := .drive })) ∧
      ∀ g, blankingKept s.ports false (es g) ∧ ∀ p ∈ portsAlong s.ports (es g), atMostOneBit p.ledrow

/-- A call of SimHalted, MemRead, MemWrite or SimSetReg returns the first prepared answer and removes it, or where
none is prepared some answer that is a success or a failure; the call with its operands (SIM_WORD_SIZE,
PC_REG_NAME, the decimal numeral) and its answer is appended to the trace; nothing else changes. (The prepared
answers are the model's: log 5.) [R64, R65, R66, R68, spec/20_memory.md section 2] -/
def Obligations.PrimitiveCallsAndAnswers : Prop :=
  ∀ (s : State) (a : Addr) (v : Word),
    (∀ x rest, s.answers.halted = x :: rest → haltedNow s = x ∧
      afterHalted s = { s with answers.halted := rest, trace := s.trace ++ [.sim (.halted x)] }) ∧
    (s.answers.halted = [] →
      afterHalted s = { s with free := s.free + 1, trace := s.trace ++ [.sim (.halted (haltedNow s))] }) ∧
    (∀ x rest, s.answers.reads = x :: rest → readNow s = x ∧
      afterRead a s =
        { s with answers.reads := rest, trace := s.trace ++ [.sim (.read a Config.simWordSize x)] }) ∧
    (s.answers.reads = [] → readNow s ≠ .never ∧
      afterRead a s =
        { s with free := s.free + 1, trace := s.trace ++ [.sim (.read a Config.simWordSize (readNow s))] }) ∧
    (∀ x rest, s.answers.writes = x :: rest → writeNow s = x ∧
      afterWrite a v s =
        { s with answers.writes := rest, trace := s.trace ++ [.sim (.write a Config.simWordSize v x)] }) ∧
    (s.answers.writes = [] → writeNow s ≠ .never ∧
      afterWrite a v s =
        { s with free := s.free + 1, trace := s.trace ++ [.sim (.write a Config.simWordSize v (writeNow s))] }) ∧
    (∀ x rest, s.answers.setRegs = x :: rest → setRegNow s = x ∧
      afterSetReg a s =
        { s with answers.setRegs := rest, trace := s.trace ++ [.sim (.setReg Config.pcRegName (dec a) x)] }) ∧
    (s.answers.setRegs = [] → setRegNow s ≠ .never ∧
      afterSetReg a s =
        { s with free := s.free + 1, trace := s.trace ++ [.sim (.setReg Config.pcRegName (dec a) (setRegNow s))] })

/-- For every 22-bit value dec(v) is a non-empty string of decimal digits, most significant first, whose value is v,
whose first digit is not 0 unless v is 0; dec(0) is "0" and dec(0o100) is "64". [R66] -/
def Obligations.DecimalNumeralOfAddress : Prop :=
  (∀ v : Addr,
    let cs := (dec v).toList
    cs ≠ [] ∧ (∀ c ∈ cs, c.isDigit = true) ∧ cs.foldl (fun n c => 10 * n + (c.toNat - 48)) 0 = v.toNat ∧
      (v ≠ 0 → cs.head? ≠ some '0')) ∧
    dec 0 = "0" ∧ dec 0o100 = "64"

/-- With a falling edge of sw_load_addr while halted, console_address is the whole switch register and the latch is
disowned; while running only the question SimHalted() is asked; with no falling edge nothing happens. Nothing else
changes. [R212] -/
def Obligations.LoadAddrLoadsSwitchRegister : Prop :=
  ∀ s : State, s.phase ≠ .done →
    ((edgeOf 1 s).fall = true → haltedNow s = true → exec .loadAddr s = .next
      { afterHalted s with consoleAddress := s.ps.switchState, useDataLatched := false }) ∧
    ((edgeOf 1 s).fall = true → haltedNow s = false → exec .loadAddr s = .next (afterHalted s)) ∧
    ((edgeOf 1 s).fall = false → exec .loadAddr s = .next s)

/-- With a falling edge of sw_exam while halted, one MemRead at console_address is issued; where it succeeds the word
is latched and owns the display and console_address advances by 1 modulo 2^22; where it fails only the failure is
recorded. While running only SimHalted() is asked; with no falling edge nothing happens. Nothing else changes.
[R214, R216] -/
def Obligations.ExamReadsAndAdvances : Prop :=
  ∀ s : State, s.phase ≠ .done →
    let u := afterRead s.consoleAddress (afterHalted s)
    (∀ v, (edgeOf 2 s).fall = true → haltedNow s = true → readNow (afterHalted s) = .ok v → exec .exam s = .next
      { u with
        dataLatched := v, useDataLatched := true
        consoleAddress := BitVec.ofNat 22 ((s.consoleAddress.toNat + 1) % 2 ^ 22) }) ∧
    ((edgeOf 2 s).fall = true → haltedNow s = true → readNow (afterHalted s) = .failed → exec .exam s = .next
      { u with trace := u.trace ++ [.failure (.sim .exam)] }) ∧
    ((edgeOf 2 s).fall = true → haltedNow s = false → exec .exam s = .next (afterHalted s)) ∧
    ((edgeOf 2 s).fall = false → exec .exam s = .next s)

/-- With a falling edge of sw_dep while halted, one MemWrite of the low 16 bits of the switch register at
console_address is issued; where it succeeds the word is latched and owns the display and console_address advances
by 1 modulo 2^22; where it fails only the failure is recorded. While running only SimHalted() is asked; with no
falling edge nothing happens. Nothing else changes. (The modulus of the DEP increment is marked as derived by
R218.) [R220, spec/44_console_commands.md section 4] -/
def Obligations.DepWritesAndAdvances : Prop :=
  ∀ s : State, s.phase ≠ .done →
    let v : Word := BitVec.ofNat 16 (s.ps.switchState.toNat % 2 ^ 16)
    let u := afterWrite s.consoleAddress v (afterHalted s)
    ((edgeOf 3 s).fall = true → haltedNow s = true → writeNow (afterHalted s) = .ok → exec .dep s = .next
      { u with
        dataLatched := v, useDataLatched := true
        consoleAddress := BitVec.ofNat 22 ((s.consoleAddress.toNat + 1) % 2 ^ 22) }) ∧
    ((edgeOf 3 s).fall = true → haltedNow s = true → writeNow (afterHalted s) = .failed → exec .dep s = .next
      { u with trace := u.trace ++ [.failure (.sim .dep)] }) ∧
    ((edgeOf 3 s).fall = true → haltedNow s = false → exec .dep s = .next (afterHalted s)) ∧
    ((edgeOf 3 s).fall = false → exec .dep s = .next s)

/-- With a falling edge of sw_cont exactly one SimStep() is issued and one diagnostic logged whose text depends on the
S_INST/S_BUS_CYCLE switch; with a rising edge of sw_test one debug dump is logged; otherwise nothing happens. The
run state is not asked and the bit h of the event has no effect. Nothing else changes. (The order of the step and
the log event is the model's: log 24.) [R224, R226, R236] -/
def Obligations.ContStepsAndTestDumps : Prop :=
  ∀ (s : State) (h : Bool),
    (s.phase ≠ .done →
      ((edgeOf 4 s).fall = true → exec (.cont h) s = .next
        { s with
          trace := s.trace ++ [.sim .singleStep, .log .debug (.contDiagnostic s.ps.swSinstSbusCycle)] }) ∧
      ((edgeOf 4 s).fall = false → exec (.cont h) s = .next s)) ∧
    ((edgeOf 0 s).rise = true → exec (.test h) s = .next { s with trace := s.trace ++ [.log .debug .testDump] }) ∧
    ((edgeOf 0 s).rise = false → exec (.test h) s = .next s)

/-- With a falling edge of sw_enable_halt while running SimHalt() is issued; with a rising edge while halted SimRun()
is issued and use_data_latched cleared; in the other run state only SimHalted() is asked; without the edge nothing
happens. Nothing else changes. [R228, R230] -/
def Obligations.HaltAndEnable : Prop :=
  ∀ s : State, s.phase ≠ .done →
    ((edgeOf 5 s).fall = true → haltedNow s = false → exec .halt s = .next
      { afterHalted s with trace := (afterHalted s).trace ++ [.sim .halt] }) ∧
    ((edgeOf 5 s).fall = true → haltedNow s = true → exec .halt s = .next (afterHalted s)) ∧
    ((edgeOf 5 s).fall = false → exec .halt s = .next s) ∧
    ((edgeOf 5 s).rise = true → haltedNow s = true → exec .enable s = .next
      { afterHalted s with trace := (afterHalted s).trace ++ [.sim .run], useDataLatched := false }) ∧
    ((edgeOf 5 s).rise = true → haltedNow s = false → exec .enable s = .next (afterHalted s)) ∧
    ((edgeOf 5 s).rise = false → exec .enable s = .next s)

/-- With a falling edge of sw_start while halted, SimSetReg of the decimal numeral of console_address is issued; where
it succeeds SimRun() follows and the latch is disowned; where it fails only the failure is recorded and SimRun()
is not issued. While running only SimHalted() is asked; with no falling edge nothing happens. Nothing else
changes. [R232, R233] -/
def Obligations.StartSetsPcAndRuns : Prop :=
  ∀ s : State, s.phase ≠ .done →
    let u := afterSetReg s.consoleAddress (afterHalted s)
    ((edgeOf 6 s).fall = true → haltedNow s = true → setRegNow (afterHalted s) = .ok → exec .start s = .next
      { u with trace := u.trace ++ [.sim .run], useDataLatched := false }) ∧
    ((edgeOf 6 s).fall = true → haltedNow s = true → setRegNow (afterHalted s) = .failed → exec .start s = .next
      { u with trace := u.trace ++ [.failure (.sim .start)] }) ∧
    ((edgeOf 6 s).fall = true → haltedNow s = false → exec .start s = .next (afterHalted s)) ∧
    ((edgeOf 6 s).fall = false → exec .start s = .next s)

/-- With a rising edge of r1_button RELOAD writes the result RELOAD and ends the session; with a rising edge of
r2_button RESTART does so with RESTART; without the edge nothing happens, and h has no effect. SESSION.END and
P_DONE write only phase. The RESULT rows write only session_result. The codes are those of R119 and R120. (That a
RESULT row and P_DONE can be run alone is the model's: log 26.) [R119, R120, R234, R235, R287] -/
def Obligations.SessionRows : Prop :=
  (∀ (s : State) (h : Bool),
    ((edgeOf 7 s).rise = true → exec (.reload h) s = .next { s with sessionResult := .reload, phase := .done }) ∧
    ((edgeOf 7 s).rise = false → exec (.reload h) s = .next s) ∧
    ((edgeOf 8 s).rise = true → exec (.restart h) s = .next { s with sessionResult := .restart, phase := .done }) ∧
    ((edgeOf 8 s).rise = false → exec (.restart h) s = .next s) ∧
    exec .sessionEnd s = .next { s with phase := .done } ∧ exec .phaseDone s = .next { s with phase := .done } ∧
    exec .resultExit s = .next { s with sessionResult := .exit } ∧
    exec .resultRestart s = .next { s with sessionResult := .restart } ∧
    exec .resultReload s = .next { s with sessionResult := .reload }) ∧
  [SessionResult.exit, .restart, .reload].map Config.resultCode = [0, 1, 2] ∧
  [Phase.stopchk, .scan, .decode, .feed, .control, .encode, .drive, .done].map Phase.code = [0, 1, 2, 3, 4, 5, 6, 7]

/-- In a session EXAM, DEP and START fault exactly where their edge fell, the simulator is halted and the prepared
answer of the primitive they issue is that it never returns; the fault is primitiveNeverReturns. With no session,
the operations that reach the simulator and the phases of an iteration are refused by name. (The spec calls the
first stuck and the others not defined: U16, U17, U18; the names and the prepared answers are the model's: log 5,
log 17, log 18. That the phases can be run alone, as rows, is log 26.) [spec/93_implementation_defined.md U16,
U17, U18] -/
def Obligations.StopsByName : Prop :=
  ∀ s : State,
    (s.phase ≠ .done → ∀ f : Fault,
      (exec .exam s = .fault f ↔ f = .primitiveNeverReturns ∧ (edgeOf 2 s).fall = true ∧ haltedNow s = true ∧
        ∃ rest, s.answers.reads = .never :: rest) ∧
      (exec .dep s = .fault f ↔ f = .primitiveNeverReturns ∧ (edgeOf 3 s).fall = true ∧ haltedNow s = true ∧
        ∃ rest, s.answers.writes = .never :: rest) ∧
      (exec .start s = .fault f ↔ f = .primitiveNeverReturns ∧ (edgeOf 6 s).fall = true ∧ haltedNow s = true ∧
        ∃ rest, s.answers.setRegs = .never :: rest)) ∧
    (s.phase = .done →
      (∀ i ∈ [Instr.loadAddr, .exam, .dep, .halt, .enable, .start, .control], exec i s = .refused .noSession) ∧
      (∀ b, exec (.cont b) s = .refused .noSession ∧ exec (.haltchk b) s = .refused .noSession) ∧
      ∀ i ∈ [Instr.iter, .phaseStopchk, .phaseScan, .phaseDecode, .phaseFeed, .phaseControl, .phaseEncode, .phaseDrive],
        exec i s = .refused .iterWhileDone)

/-- HALTCHK clears first_iter where it is set and the scan succeeded, and issues SimHalt() exactly where
sw_enable_halt is then false; otherwise it does nothing. Nothing else changes. [R286] -/
def Obligations.HaltCheckOncePerSession : Prop :=
  ∀ s : State, s.phase ≠ .done →
    (s.firstIter = true → s.ps.swEnableHalt = false →
      exec (.haltchk true) s = .next { s with firstIter := false, trace := s.trace ++ [.sim .halt] }) ∧
    (s.firstIter = true → s.ps.swEnableHalt = true →
      exec (.haltchk true) s = .next { s with firstIter := false }) ∧
    (s.firstIter = false → exec (.haltchk true) s = .next s) ∧
    exec (.haltchk false) s = .next s

/-- Where no snapshot lands during the take: with snap_ready set it is cleared, the snapshot is taken and act_buf is
its activity counts; with snap_ready clear nothing is read. Where the simulator writes a newer snapshot during the
take, each register read is the newer one's or the older one's, whichever the write had reached, and the mailbox
then holds the newer snapshot with snap_ready set. Nothing else changes. (The torn take is marked as derived by
R72; how it is given is the model's: log 19, log 21.) [R71, R73, spec/20_memory.md R72] -/
def Obligations.SnapTakeTakesAndClears : Prop :=
  ∀ s : State,
    (s.midTake = none → s.snapReady = true → exec .snapTake s = .next
      { s with snapReady := false, work.taken := true, work.snap := s.snap, actBuf := s.snap.act }) ∧
    (s.midTake = none → s.snapReady = false → exec .snapTake s = .next
      { s with snapReady := false, work.taken := false }) ∧
    (∀ m, s.midTake = some m → s.snapReady = false → exec .snapTake s = .next
      { s with snap := m.newer, snapReady := true, midTake := none, work.taken := false }) ∧
    (∀ m, s.midTake = some m → s.snapReady = true → ∃ S : Snapshot, exec .snapTake s = .next
      { s with
        snap := m.newer, snapReady := true, midTake := none, work.taken := true, work.snap := S, actBuf := S.act } ∧
      S.pc = (if m.mask.pc = true then m.newer.pc else s.snap.pc) ∧
      S.ir = (if m.mask.ir = true then m.newer.ir else s.snap.ir) ∧
      S.psw = (if m.mask.psw = true then m.newer.psw else s.snap.psw) ∧
      (∀ i : Fin 8, S.r[i] = if m.mask.r.getLsbD i.val = true then m.newer.r[i] else s.snap.r[i]) ∧
      (∀ i : Fin 22, S.act[i] = if m.mask.act.getLsbD i.val = true then m.newer.act[i] else s.snap.act[i]))

/-- With no snapshot landing during it, CONTROL reads the mailbox and the activity counts, takes the nine samples of
PanelState's switches, runs LOAD_ADDR, EXAM, DEP, CONT, HALT, ENABLE, START and RELOAD in this order; if the
session ended there it stops; else RESTART, and if the session ended there it stops; else TEST, one SimHalted(),
and the seven derivations in their order on the snapshot read and that one answer. A fault in the commands is
CONTROL's. (log 21.) [R211, R250, R283] -/
def Obligations.ControlRunsItsParts : Prop :=
  ∀ s : State, s.phase ≠ .done → s.midTake = none →
    let S := s.snap
    let front := runAll
      [.edgeSample 0 s.ps.swTest, .edgeSample 1 s.ps.swLoadAddr, .edgeSample 2 s.ps.swExam, .edgeSample 3 s.ps.swDep,
        .edgeSample 4 s.ps.swCont, .edgeSample 5 s.ps.swEnableHalt, .edgeSample 6 s.ps.swStart,
        .edgeSample 7 s.ps.r1Button, .edgeSample 8 s.ps.r2Button,
        .loadAddr, .exam, .dep, .cont false, .halt, .enable, .start, .reload false]
      { s with work.snap := S, actBuf := S.act }
    (∀ f, front = .fault f → exec .control s = .fault f) ∧
    (∀ a, front = .next a → a.phase = .done → exec .control s = .next a) ∧
    (∀ a, front = .next a → a.phase ≠ .done → ∃ b, exec (.restart false) a = .next b ∧
      (b.phase = .done → exec .control s = .next b) ∧
      (b.phase ≠ .done → ∃ c, exec (.test false) b = .next c ∧
        exec .control s = runAll
          [.deriveKsu S, .deriveAddr S (haltedNow c), .deriveBlink (haltedNow c), .deriveData S (haltedNow c),
            .deriveRange S, .deriveParity, .deriveAux S (haltedNow c)]
          (afterHalted c)))

/-- Whenever CONTROL completes, whether or not a command was permitted or succeeded, every detector holds the value
its signal had at the start, so no edge is left for the next iteration. CONTROL writes only the derived fields of
PanelState, the console latches, the detectors, blink_active, act_buf, the session's end, the mailbox where a
snapshot landed, and the record of its calls: the decoders, the lines, the switch fields and positions of
PanelState, keep_running and first_iter keep their values. (R242's second sentence is marked as derived.) [R132,
R242, spec/46_iteration_sequencer.md R283] -/
def Obligations.ControlConsumesEveryEdge : Prop :=
  ∀ s t : State, exec .control s = .next t →
    t.ed = Vector.ofFn (fun k => monitored s.ps k) ∧
    t = { s with
          ps := { s.ps with
                  address := t.ps.address, data := t.ps.data, aux := t.ps.aux
                  flagAddr16 := t.ps.flagAddr16, flagAddr18 := t.ps.flagAddr18, flagAddr22 := t.ps.flagAddr22
                  flagKernel := t.ps.flagKernel, flagSuper := t.ps.flagSuper, flagUser := t.ps.flagUser
                  flagParLow := t.ps.flagParLow, flagParHigh := t.ps.flagParHigh }
          consoleAddress := t.consoleAddress, dataLatched := t.dataLatched, useDataLatched := t.useDataLatched
          ed := t.ed, blinkActive := t.blinkActive, actBuf := t.actBuf
          snap := t.snap, snapReady := t.snapReady, midTake := t.midTake
          phase := t.phase, sessionResult := t.sessionResult
          answers := t.answers, work := t.work, trace := t.trace, free := t.free }

/-- In a session, whatever the state, the inputs and the answers, if no prepared answer is a primitive that never
returns, then ITER, CONTROL and P_CONTROL each answer a next state: failures of line operations and of simulator
commands end no iteration. ITER leaves no iteration value behind and does not touch keep_running, the agenda or
the inputs. (The iteration's values and their clearing are the model's: log 8; so are the prepared answers and the
one that never returns: log 5, log 17; the agenda: log 1; and that P_CONTROL can be run alone, as a row: log 26.)
[R280, R283, R302, R304, R315] -/
def Obligations.IterationCompletes : Prop :=
  ∀ s : State, s.phase ≠ .done → everyCallReturns s.answers →
    (∃ t, exec .iter s = .next t ∧ t.work = Work.idle ∧ t.agenda = s.agenda ∧ t.keepRunning = s.keepRunning ∧
      t.colIn = s.colIn ∧ t.ioOkScan = s.ioOkScan ∧ t.ioOkDrive = s.ioOkDrive) ∧
    (∃ t, exec .control s = .next t) ∧ (∃ t, exec .phaseControl s = .next t)

/-- Where r1_button rises at CONTROL, the session ends with RELOAD whether or not r2_button rises too; where only
r2_button rises it ends with RESTART; in both cases no derivation runs, so PanelState and blink_active are
unchanged. Where neither rises the session goes on. [R234, R235, R315] -/
def Obligations.ReloadBeatsRestart : Prop :=
  ∀ s t : State, exec .control s = .next t →
    (s.ed[7] = false → s.ps.r1Button = true →
      t.phase = .done ∧ t.sessionResult = .reload ∧ t.ps = s.ps ∧ t.blinkActive = s.blinkActive) ∧
    ((s.ed[7] = true ∨ s.ps.r1Button = false) → s.ed[8] = false → s.ps.r2Button = true →
      t.phase = .done ∧ t.sessionResult = .restart ∧ t.ps = s.ps ∧ t.blinkActive = s.blinkActive) ∧
    ((s.ed[7] = true ∨ s.ps.r1Button = false) → (s.ed[8] = true ∨ s.ps.r2Button = false) →
      t.phase = s.phase ∧ t.sessionResult = s.sessionResult)

/-- Where the ENABLE/HALT switch alone falls at CONTROL and the simulator keeps the named assumption SIM_WB over the
calls made, the displayed address after it is console_address and blinkenlights are off, whether the simulator was
running or already halted. (SIM_WB is the spec's optional assumption, from general knowledge.) [R86, R228,
spec/44_console_commands.md section 10] -/
def Obligations.HaltShowsConsoleAddress : Prop :=
  ∀ s t : State, exec .control s = .next t → s.ed[5] = true → s.ps.swEnableHalt = false →
    (∀ k : Fin 9, k ≠ 5 → s.ed[k] = monitored s.ps k) →
    ∃ es, t.trace = s.trace ++ es ∧
      ∀ (st : RunState) (last : Option (Addr × Word)), simWB st last (simCallsOf es) →
        t.ps.address = s.consoleAddress ∧ t.blinkActive = false

/-- With keep_running false, ITER ends the session with result EXIT before any line is touched: it writes
session_result and phase and clears the iteration's values, and makes no line operation and no simulator call;
P_STOPCHK run alone writes only session_result and phase. With keep_running true P_STOPCHK only enters the phase.
(That ITER clears the iteration's values is the model's: log 8; that P_STOPCHK can be run alone, as a row, is log
26.) [R281, R315] -/
def Obligations.StopRequestEndsSession : Prop :=
  ∀ s : State, s.phase ≠ .done →
    (s.keepRunning = false →
      exec .iter s = .next { s with phase := .done, sessionResult := .exit, work := Work.idle } ∧
      exec .phaseStopchk s = .next { s with phase := .done, sessionResult := .exit }) ∧
    (s.keepRunning = true → exec .phaseStopchk s = .next { s with phase := .stopchk })

/-- With keep_running true, ITER is P_STOPCHK, P_SCAN, where the scan succeeds P_DECODE and P_FEED, P_CONTROL, and
where the session has not ended P_ENCODE and P_DRIVE, after which the iteration's values are cleared. P_CONTROL is
HALTCHK on the scan's result, SNAP.TAKE, and then the wait T_IDLE where no snapshot was ready, CONTROL where one
was (with no snapshot landing during the take). (That the values are cleared is the model's: log 8; that the
phases can be run alone, as rows, one after the other is log 26; that SNAP.TAKE reads the mailbox and CONTROL run
alone reads it again, so that P_CONTROL is CONTROL after the take, is log 21; the snapshot landing during the take
is log 19.) [R280, R282, R284, R285] -/
def Obligations.IterationRunsItsPhases : Prop :=
  ∀ s : State, s.phase ≠ .done →
    (s.keepRunning = true → ∀ a,
      runAll (Instr.phaseStopchk :: .phaseScan :: (if s.ioOkScan then [Instr.phaseDecode, .phaseFeed] else []) ++
        [Instr.phaseControl]) s = .next a →
      (a.phase = .done → exec .iter s = .next { a with work := Work.idle }) ∧
      (a.phase ≠ .done → ∃ b, runAll [.phaseEncode, .phaseDrive] a = .next b ∧
        exec .iter s = .next { b with work := Work.idle })) ∧
    (∃ u v, exec (.haltchk s.work.scanOk) { s with phase := .control } = .next u ∧ exec .snapTake u = .next v ∧
      (s.snapReady = false → exec .phaseControl s = .next { v with trace := v.trace ++ [.wait .idle] }) ∧
      (s.snapReady = true → s.midTake = none → exec .phaseControl s = exec .control v))

/-- With keep_running true and no snapshot ready, ITER completes: no detector is sampled, no latch, derived field of
PanelState, blink_active or act_buf changes, no simulator call is made except the SimHalt() of HALTCHK, no
prepared answer is used, and T_IDLE is waited. Where the scan succeeds the positions shown are the decoders';
where it fails PanelState, both decoders and first_iter keep their values. The phase it leaves is P_DRIVE, and
session_result is not written. (That the phase between two iterations is P_DRIVE is read from R280: log 29. The
prepared answers are the model's: log 5; the events are log 7.) [R282, R284] -/
def Obligations.IterationWithoutSnapshot : Prop :=
  ∀ s : State, s.phase ≠ .done → s.keepRunning = true → s.snapReady = false → ∃ t es, exec .iter s = .next t ∧
    t.trace = s.trace ++ es ∧ t.phase = .drive ∧ t.ed = s.ed ∧ t.consoleAddress = s.consoleAddress ∧
    t.dataLatched = s.dataLatched ∧ t.useDataLatched = s.useDataLatched ∧ t.blinkActive = s.blinkActive ∧
    t.actBuf = s.actBuf ∧ t.answers = s.answers ∧ t.sessionResult = s.sessionResult ∧
    t.ps = { s.ps with
             switchState := t.ps.switchState, r1Position := t.ps.r1Position, r2Position := t.ps.r2Position
             swTest := t.ps.swTest, swLoadAddr := t.ps.swLoadAddr, swExam := t.ps.swExam, swDep := t.ps.swDep
             swCont := t.ps.swCont, swEnableHalt := t.ps.swEnableHalt
             swSinstSbusCycle := t.ps.swSinstSbusCycle, swStart := t.ps.swStart
             r1Button := t.ps.r1Button, r2Button := t.ps.r2Button } ∧
    (simCallsOf es = [] ∨ (s.firstIter = true ∧ s.ioOkScan = true ∧ simCallsOf es = [.halt])) ∧
    Event.wait .idle ∈ es ∧
    (s.ioOkScan = true →
      t.ps.r1Position = BitVec.ofNat 3 t.rot1.position ∧ t.ps.r2Position = BitVec.ofNat 2 t.rot2.position) ∧
    (s.ioOkScan = false → t.ps = s.ps ∧ t.rot1 = s.rot1 ∧ t.rot2 = s.rot2 ∧ t.firstIter = s.firstIter)

/-- After an ITER that took a snapshot and did not end the session: exactly one range flag is true and it is the one
of the snapshot's PC, at most one mode flag is true, the displayed address is console_address or the low 22 bits
of the PC, blink_active is false at position 3, act_buf holds the snapshot's counts, and snap_ready is clear.
(R268 is marked as derived by the spec; no snapshot lands during the take.) [R71, R73, R262,
spec/45_snapshot_derivation.md R268] -/
def Obligations.IterationWithSnapshot : Prop :=
  ∀ s t : State, exec .iter s = .next t → s.snapReady = true → s.midTake = none → t.phase ≠ .done →
    [t.ps.flagAddr16, t.ps.flagAddr18, t.ps.flagAddr22].count true = 1 ∧
    (t.ps.flagAddr16 = true ↔ s.snap.pc < 65536) ∧ (t.ps.flagAddr22 = true ↔ 262144 ≤ s.snap.pc) ∧
    atMostOneFlag t.ps.flagKernel t.ps.flagSuper t.ps.flagUser ∧
    (t.ps.address = t.consoleAddress ∨ t.ps.address = BitVec.ofNat 22 (s.snap.pc % 2 ^ 22)) ∧
    (t.ps.r1Position = 3#3 → t.ps.address = t.consoleAddress ∧ t.blinkActive = false) ∧
    t.actBuf = s.snap.act ∧ t.snapReady = false

/-- From idle lines, with no failing line operation, at every moment of an ITER at most one LED row is energised, at
most one switch row selected, and no LED row is energised while the columns are inputs or a switch row is
selected; columns are written only as outputs and read only as inputs; every pattern is blanked for T_BLANK; the
lines are idle again at its end, also where the session ends inside it. An ITER that reaches its end lasts at
least 3*T_SETTLE + T_MODE_PAUSE + 6*(T_BLANK + T_VIS), and T_IDLE more without a snapshot: more than 9750
microseconds. (R200, R356 and R371 are marked as derived by the spec; the trace the lines are read from is the
model's: log 7; T_SETTLE is taken at its default, log 23.) [R87, R196, R197, spec/43_light_encode_drive.md R200,
spec/70_reset_and_hazards.md R355, R356, R371] -/
def Obligations.LinesSafeAtEveryMoment : Prop :=
  ∀ s t : State, exec .iter s = .next t → s.ports = Ports.idle → s.ioOkScan = true → s.ioOkDrive = true →
    t.ports = Ports.idle ∧ ∃ es, t.trace = s.trace ++ es ∧
      (∀ p ∈ portsAlong Ports.idle es, linesSafe p) ∧ directionKept Ports.idle es ∧
      blankingKept Ports.idle false es ∧
      (t.phase ≠ .done →
        3 * Config.delayUs .settle + Config.delayUs .modePause + 6 * (Config.delayUs .blank + Config.delayUs .vis) +
          (if s.snapReady then 0 else Config.delayUs .idle) ≤ leastDuration es ∧ 9750 < leastDuration es)

/-- For every state in P_DONE whatsoever, a step that answers a next state and leaves P_DONE is a session start; no
code word, no event, no iteration input leaves it. (The agenda and the code-word port are the model's: log 1, log
2.) [R45, R287, R323] -/
def Obligations.OnlySessionStartLeavesDone : Prop :=
  ∀ s t : State, s.phase = .done → step s = .next t → t.phase ≠ .done →
    ∃ rest, s.agenda = .startSession :: rest

/-- For every instruction and every state: console_address is written only by LOAD_ADDR, EXAM and DEP, data_latched
only by EXAM and DEP, use_data_latched only by those and ENABLE and START, the detectors only by EDGE.SAMPLE, the
decoders only by ROT.ADD_DELTA, PS.address only by DERIVE.ADDR, PS.data only by DERIVE.DATA, PS.switch_state only
by P_DECODE, blink_active only by DERIVE.BLINK, act_buf only by the take, the port registers only by SCAN and
DRIVE, each alone or inside the phase, CONTROL or ITER that runs it. (That a phase can be run alone, as a row, is
the model's: log 26; CONTROL run alone takes the activity counts itself: log 21.) [R21, R22, R28, R32, R33, R34,
R35, R39, R40, R49, R240] -/
def Obligations.WhoWritesWhat : Prop :=
  ∀ (i : Instr) (s t : State), exec i s = .next t →
    (t.consoleAddress = s.consoleAddress ∨ i ∈ [Instr.loadAddr, .exam, .dep, .control, .phaseControl, .iter]) ∧
    (t.dataLatched = s.dataLatched ∨ i ∈ [Instr.exam, .dep, .control, .phaseControl, .iter]) ∧
    (t.useDataLatched = s.useDataLatched ∨
      i ∈ [Instr.loadAddr, .exam, .dep, .enable, .start, .control, .phaseControl, .iter]) ∧
    (t.ed = s.ed ∨ (∃ k c, i = .edgeSample k c) ∨ i ∈ [Instr.control, .phaseControl, .iter]) ∧
    ((t.rot1 = s.rot1 ∧ t.rot2 = s.rot2) ∨ (∃ n a b, i = .rotAddDelta n a b) ∨ i ∈ [Instr.phaseFeed, .iter]) ∧
    (t.ps.address = s.ps.address ∨ (∃ S h, i = .deriveAddr S h) ∨ i ∈ [Instr.control, .phaseControl, .iter]) ∧
    (t.ps.data = s.ps.data ∨ (∃ S h, i = .deriveData S h) ∨ i ∈ [Instr.control, .phaseControl, .iter]) ∧
    (t.ps.switchState = s.ps.switchState ∨ i ∈ [Instr.phaseDecode, .iter]) ∧
    (t.blinkActive = s.blinkActive ∨ (∃ h, i = .deriveBlink h) ∨ i ∈ [Instr.control, .phaseControl, .iter]) ∧
    (t.actBuf = s.actBuf ∨ i ∈ [Instr.snapTake, .control, .phaseControl, .iter]) ∧
    (t.ports = s.ports ∨ (∃ g, i = .drive g) ∨ i ∈ [Instr.scan, .phaseScan, .phaseDrive, .iter])

end
end

