-- ==== Sys2Proof/Laws/State.lean ====
section
/-! SUPPORT. One lemma for each field of State and each elementary update: which fields an operation leaves as they were,
and what it writes. -/

namespace Sys2Proof.Machine

/-! ## record -/

@[simp] theorem record_ps (e : Event) (s : State) : (record e s).ps = s.ps := rfl
@[simp] theorem record_consoleAddress (e : Event) (s : State) : (record e s).consoleAddress = s.consoleAddress := rfl
@[simp] theorem record_dataLatched (e : Event) (s : State) : (record e s).dataLatched = s.dataLatched := rfl
@[simp] theorem record_useDataLatched (e : Event) (s : State) : (record e s).useDataLatched = s.useDataLatched := rfl
@[simp] theorem record_ed (e : Event) (s : State) : (record e s).ed = s.ed := rfl
@[simp] theorem record_rot1 (e : Event) (s : State) : (record e s).rot1 = s.rot1 := rfl
@[simp] theorem record_rot2 (e : Event) (s : State) : (record e s).rot2 = s.rot2 := rfl
@[simp] theorem record_blinkActive (e : Event) (s : State) : (record e s).blinkActive = s.blinkActive := rfl
@[simp] theorem record_actBuf (e : Event) (s : State) : (record e s).actBuf = s.actBuf := rfl
@[simp] theorem record_snap (e : Event) (s : State) : (record e s).snap = s.snap := rfl
@[simp] theorem record_snapReady (e : Event) (s : State) : (record e s).snapReady = s.snapReady := rfl
@[simp] theorem record_keepRunning (e : Event) (s : State) : (record e s).keepRunning = s.keepRunning := rfl
@[simp] theorem record_phase (e : Event) (s : State) : (record e s).phase = s.phase := rfl
@[simp] theorem record_scanRow (e : Event) (s : State) : (record e s).scanRow = s.scanRow := rfl
@[simp] theorem record_ledRow (e : Event) (s : State) : (record e s).ledRow = s.ledRow := rfl
@[simp] theorem record_firstIter (e : Event) (s : State) : (record e s).firstIter = s.firstIter := rfl
@[simp] theorem record_sessionResult (e : Event) (s : State) : (record e s).sessionResult = s.sessionResult := rfl
@[simp] theorem record_ports (e : Event) (s : State) : (record e s).ports = s.ports := rfl
@[simp] theorem record_colIn (e : Event) (s : State) : (record e s).colIn = s.colIn := rfl
@[simp] theorem record_ioOkScan (e : Event) (s : State) : (record e s).ioOkScan = s.ioOkScan := rfl
@[simp] theorem record_ioOkDrive (e : Event) (s : State) : (record e s).ioOkDrive = s.ioOkDrive := rfl
@[simp] theorem record_midTake (e : Event) (s : State) : (record e s).midTake = s.midTake := rfl
@[simp] theorem record_answers (e : Event) (s : State) : (record e s).answers = s.answers := rfl
@[simp] theorem record_agenda (e : Event) (s : State) : (record e s).agenda = s.agenda := rfl
@[simp] theorem record_work (e : Event) (s : State) : (record e s).work = s.work := rfl
@[simp] theorem record_trace (e : Event) (s : State) : (record e s).trace = s.trace ++ [e] := rfl
@[simp] theorem record_free (e : Event) (s : State) : (record e s).free = s.free := rfl

/-! ## line -/

@[simp] theorem line_ps (l : LineEvent) (s : State) : (line l s).ps = s.ps := rfl
@[simp] theorem line_consoleAddress (l : LineEvent) (s : State) : (line l s).consoleAddress = s.consoleAddress := rfl
@[simp] theorem line_dataLatched (l : LineEvent) (s : State) : (line l s).dataLatched = s.dataLatched := rfl
@[simp] theorem line_useDataLatched (l : LineEvent) (s : State) : (line l s).useDataLatched = s.useDataLatched := rfl
@[simp] theorem line_ed (l : LineEvent) (s : State) : (line l s).ed = s.ed := rfl
@[simp] theorem line_rot1 (l : LineEvent) (s : State) : (line l s).rot1 = s.rot1 := rfl
@[simp] theorem line_rot2 (l : LineEvent) (s : State) : (line l s).rot2 = s.rot2 := rfl
@[simp] theorem line_blinkActive (l : LineEvent) (s : State) : (line l s).blinkActive = s.blinkActive := rfl
@[simp] theorem line_actBuf (l : LineEvent) (s : State) : (line l s).actBuf = s.actBuf := rfl
@[simp] theorem line_snap (l : LineEvent) (s : State) : (line l s).snap = s.snap := rfl
@[simp] theorem line_snapReady (l : LineEvent) (s : State) : (line l s).snapReady = s.snapReady := rfl
@[simp] theorem line_keepRunning (l : LineEvent) (s : State) : (line l s).keepRunning = s.keepRunning := rfl
@[simp] theorem line_phase (l : LineEvent) (s : State) : (line l s).phase = s.phase := rfl
@[simp] theorem line_scanRow (l : LineEvent) (s : State) : (line l s).scanRow = s.scanRow := rfl
@[simp] theorem line_ledRow (l : LineEvent) (s : State) : (line l s).ledRow = s.ledRow := rfl
@[simp] theorem line_firstIter (l : LineEvent) (s : State) : (line l s).firstIter = s.firstIter := rfl
@[simp] theorem line_sessionResult (l : LineEvent) (s : State) : (line l s).sessionResult = s.sessionResult := rfl
@[simp] theorem line_ports (l : LineEvent) (s : State) : (line l s).ports = applyLine l s.ports := rfl
@[simp] theorem line_colIn (l : LineEvent) (s : State) : (line l s).colIn = s.colIn := rfl
@[simp] theorem line_ioOkScan (l : LineEvent) (s : State) : (line l s).ioOkScan = s.ioOkScan := rfl
@[simp] theorem line_ioOkDrive (l : LineEvent) (s : State) : (line l s).ioOkDrive = s.ioOkDrive := rfl
@[simp] theorem line_midTake (l : LineEvent) (s : State) : (line l s).midTake = s.midTake := rfl
@[simp] theorem line_answers (l : LineEvent) (s : State) : (line l s).answers = s.answers := rfl
@[simp] theorem line_agenda (l : LineEvent) (s : State) : (line l s).agenda = s.agenda := rfl
@[simp] theorem line_work (l : LineEvent) (s : State) : (line l s).work = s.work := rfl
@[simp] theorem line_trace (l : LineEvent) (s : State) : (line l s).trace = s.trace ++ [.line l] := rfl
@[simp] theorem line_free (l : LineEvent) (s : State) : (line l s).free = s.free := rfl

@[simp] theorem simHalt_eq (s : State) : simHalt s = record (.sim .halt) s := rfl
@[simp] theorem simRun_eq (s : State) : simRun s = record (.sim .run) s := rfl
@[simp] theorem simStep_eq (s : State) : simStep s = record (.sim .singleStep) s := rfl
@[simp] theorem waitFor_eq (d : Config.Delay) (s : State) : waitFor d s = record (.wait d) s := rfl
@[simp] theorem raise_eq (f : Failure) (s : State) : raise f s = record (.failure f) s := rfl
@[simp] theorem logEvent_eq (l : LogLevel) (t : LogTopic) (s : State) : logEvent l t s = record (.log l t) s := rfl

/-! ## the answered primitives -/

@[simp] theorem afterHalted_ps (s : State) : (afterHalted s).ps = s.ps := by unfold afterHalted; simp only [record]; split <;> rfl
@[simp] theorem afterHalted_consoleAddress (s : State) : (afterHalted s).consoleAddress = s.consoleAddress := by unfold afterHalted; simp only [record]; split <;> rfl
@[simp] theorem afterHalted_dataLatched (s : State) : (afterHalted s).dataLatched = s.dataLatched := by unfold afterHalted; simp only [record]; split <;> rfl
@[simp] theorem afterHalted_useDataLatched (s : State) : (afterHalted s).useDataLatched = s.useDataLatched := by unfold afterHalted; simp only [record]; split <;> rfl
@[simp] theorem afterHalted_ed (s : State) : (afterHalted s).ed = s.ed := by unfold afterHalted; simp only [record]; split <;> rfl
@[simp] theorem afterHalted_rot1 (s : State) : (afterHalted s).rot1 = s.rot1 := by unfold afterHalted; simp only [record]; split <;> rfl
@[simp] theorem afterHalted_rot2 (s : State) : (afterHalted s).rot2 = s.rot2 := by unfold afterHalted; simp only [record]; split <;> rfl
@[simp] theorem afterHalted_blinkActive (s : State) : (afterHalted s).blinkActive = s.blinkActive := by unfold afterHalted; simp only [record]; split <;> rfl
@[simp] theorem afterHalted_actBuf (s : State) : (afterHalted s).actBuf = s.actBuf := by unfold afterHalted; simp only [record]; split <;> rfl
@[simp] theorem afterHalted_snap (s : State) : (afterHalted s).snap = s.snap := by unfold afterHalted; simp only [record]; split <;> rfl
@[simp] theorem afterHalted_snapReady (s : State) : (afterHalted s).snapReady = s.snapReady := by unfold afterHalted; simp only [record]; split <;> rfl
@[simp] theorem afterHalted_keepRunning (s : State) : (afterHalted s).keepRunning = s.keepRunning := by unfold afterHalted; simp only [record]; split <;> rfl
@[simp] theorem afterHalted_phase (s : State) : (afterHalted s).phase = s.phase := by unfold afterHalted; simp only [record]; split <;> rfl
@[simp] theorem afterHalted_scanRow (s : State) : (afterHalted s).scanRow = s.scanRow := by unfold afterHalted; simp only [record]; split <;> rfl
@[simp] theorem afterHalted_ledRow (s : State) : (afterHalted s).ledRow = s.ledRow := by unfold afterHalted; simp only [record]; split <;> rfl
@[simp] theorem afterHalted_firstIter (s : State) : (afterHalted s).firstIter = s.firstIter := by unfold afterHalted; simp only [record]; split <;> rfl
@[simp] theorem afterHalted_sessionResult (s : State) : (afterHalted s).sessionResult = s.sessionResult := by unfold afterHalted; simp only [record]; split <;> rfl
@[simp] theorem afterHalted_ports (s : State) : (afterHalted s).ports = s.ports := by unfold afterHalted; simp only [record]; split <;> rfl
@[simp] theorem afterHalted_colIn (s : State) : (afterHalted s).colIn = s.colIn := by unfold afterHalted; simp only [record]; split <;> rfl
@[simp] theorem afterHalted_ioOkScan (s : State) : (afterHalted s).ioOkScan = s.ioOkScan := by unfold afterHalted; simp only [record]; split <;> rfl
@[simp] theorem afterHalted_ioOkDrive (s : State) : (afterHalted s).ioOkDrive = s.ioOkDrive := by unfold afterHalted; simp only [record]; split <;> rfl
@[simp] theorem afterHalted_midTake (s : State) : (afterHalted s).midTake = s.midTake := by unfold afterHalted; simp only [record]; split <;> rfl
@[simp] theorem afterHalted_agenda (s : State) : (afterHalted s).agenda = s.agenda := by unfold afterHalted; simp only [record]; split <;> rfl
@[simp] theorem afterHalted_work (s : State) : (afterHalted s).work = s.work := by unfold afterHalted; simp only [record]; split <;> rfl
@[simp] theorem afterHalted_trace (s : State) : (afterHalted s).trace = s.trace ++ [.sim (.halted (haltedNow s))] := by unfold afterHalted; simp only [record]; split <;> rfl

@[simp] theorem afterRead_ps (a : Addr) (s : State) : (afterRead a s).ps = s.ps := by unfold afterRead; simp only [record]; split <;> rfl
@[simp] theorem afterRead_consoleAddress (a : Addr) (s : State) : (afterRead a s).consoleAddress = s.consoleAddress := by unfold afterRead; simp only [record]; split <;> rfl
@[simp] theorem afterRead_dataLatched (a : Addr) (s : State) : (afterRead a s).dataLatched = s.dataLatched := by unfold afterRead; simp only [record]; split <;> rfl
@[simp] theorem afterRead_useDataLatched (a : Addr) (s : State) : (afterRead a s).useDataLatched = s.useDataLatched := by unfold afterRead; simp only [record]; split <;> rfl
@[simp] theorem afterRead_ed (a : Addr) (s : State) : (afterRead a s).ed = s.ed := by unfold afterRead; simp only [record]; split <;> rfl
@[simp] theorem afterRead_rot1 (a : Addr) (s : State) : (afterRead a s).rot1 = s.rot1 := by unfold afterRead; simp only [record]; split <;> rfl
@[simp] theorem afterRead_rot2 (a : Addr) (s : State) : (afterRead a s).rot2 = s.rot2 := by unfold afterRead; simp only [record]; split <;> rfl
@[simp] theorem afterRead_blinkActive (a : Addr) (s : State) : (afterRead a s).blinkActive = s.blinkActive := by unfold afterRead; simp only [record]; split <;> rfl
@[simp] theorem afterRead_actBuf (a : Addr) (s : State) : (afterRead a s).actBuf = s.actBuf := by unfold afterRead; simp only [record]; split <;> rfl
@[simp] theorem afterRead_snap (a : Addr) (s : State) : (afterRead a s).snap = s.snap := by unfold afterRead; simp only [record]; split <;> rfl
@[simp] theorem afterRead_snapReady (a : Addr) (s : State) : (afterRead a s).snapReady = s.snapReady := by unfold afterRead; simp only [record]; split <;> rfl
@[simp] theorem afterRead_keepRunning (a : Addr) (s : State) : (afterRead a s).keepRunning = s.keepRunning := by unfold afterRead; simp only [record]; split <;> rfl
@[simp] theorem afterRead_phase (a : Addr) (s : State) : (afterRead a s).phase = s.phase := by unfold afterRead; simp only [record]; split <;> rfl
@[simp] theorem afterRead_scanRow (a : Addr) (s : State) : (afterRead a s).scanRow = s.scanRow := by unfold afterRead; simp only [record]; split <;> rfl
@[simp] theorem afterRead_ledRow (a : Addr) (s : State) : (afterRead a s).ledRow = s.ledRow := by unfold afterRead; simp only [record]; split <;> rfl
@[simp] theorem afterRead_firstIter (a : Addr) (s : State) : (afterRead a s).firstIter = s.firstIter := by unfold afterRead; simp only [record]; split <;> rfl
@[simp] theorem afterRead_sessionResult (a : Addr) (s : State) : (afterRead a s).sessionResult = s.sessionResult := by unfold afterRead; simp only [record]; split <;> rfl
@[simp] theorem afterRead_ports (a : Addr) (s : State) : (afterRead a s).ports = s.ports := by unfold afterRead; simp only [record]; split <;> rfl
@[simp] theorem afterRead_colIn (a : Addr) (s : State) : (afterRead a s).colIn = s.colIn := by unfold afterRead; simp only [record]; split <;> rfl
@[simp] theorem afterRead_ioOkScan (a : Addr) (s : State) : (afterRead a s).ioOkScan = s.ioOkScan := by unfold afterRead; simp only [record]; split <;> rfl
@[simp] theorem afterRead_ioOkDrive (a : Addr) (s : State) : (afterRead a s).ioOkDrive = s.ioOkDrive := by unfold afterRead; simp only [record]; split <;> rfl
@[simp] theorem afterRead_midTake (a : Addr) (s : State) : (afterRead a s).midTake = s.midTake := by unfold afterRead; simp only [record]; split <;> rfl
@[simp] theorem afterRead_agenda (a : Addr) (s : State) : (afterRead a s).agenda = s.agenda := by unfold afterRead; simp only [record]; split <;> rfl
@[simp] theorem afterRead_work (a : Addr) (s : State) : (afterRead a s).work = s.work := by unfold afterRead; simp only [record]; split <;> rfl
@[simp] theorem afterRead_trace (a : Addr) (s : State) : (afterRead a s).trace = s.trace ++ [.sim (.read a Config.simWordSize (readNow s))] := by unfold afterRead; simp only [record]; split <;> rfl

@[simp] theorem afterWrite_ps (a : Addr) (v : Word) (s : State) : (afterWrite a v s).ps = s.ps := by unfold afterWrite; simp only [record]; split <;> rfl
@[simp] theorem afterWrite_consoleAddress (a : Addr) (v : Word) (s : State) : (afterWrite a v s).consoleAddress = s.consoleAddress := by unfold afterWrite; simp only [record]; split <;> rfl
@[simp] theorem afterWrite_dataLatched (a : Addr) (v : Word) (s : State) : (afterWrite a v s).dataLatched = s.dataLatched := by unfold afterWrite; simp only [record]; split <;> rfl
@[simp] theorem afterWrite_useDataLatched (a : Addr) (v : Word) (s : State) : (afterWrite a v s).useDataLatched = s.useDataLatched := by unfold afterWrite; simp only [record]; split <;> rfl
@[simp] theorem afterWrite_ed (a : Addr) (v : Word) (s : State) : (afterWrite a v s).ed = s.ed := by unfold afterWrite; simp only [record]; split <;> rfl
@[simp] theorem afterWrite_rot1 (a : Addr) (v : Word) (s : State) : (afterWrite a v s).rot1 = s.rot1 := by unfold afterWrite; simp only [record]; split <;> rfl
@[simp] theorem afterWrite_rot2 (a : Addr) (v : Word) (s : State) : (afterWrite a v s).rot2 = s.rot2 := by unfold afterWrite; simp only [record]; split <;> rfl
@[simp] theorem afterWrite_blinkActive (a : Addr) (v : Word) (s : State) : (afterWrite a v s).blinkActive = s.blinkActive := by unfold afterWrite; simp only [record]; split <;> rfl
@[simp] theorem afterWrite_actBuf (a : Addr) (v : Word) (s : State) : (afterWrite a v s).actBuf = s.actBuf := by unfold afterWrite; simp only [record]; split <;> rfl
@[simp] theorem afterWrite_snap (a : Addr) (v : Word) (s : State) : (afterWrite a v s).snap = s.snap := by unfold afterWrite; simp only [record]; split <;> rfl
@[simp] theorem afterWrite_snapReady (a : Addr) (v : Word) (s : State) : (afterWrite a v s).snapReady = s.snapReady := by unfold afterWrite; simp only [record]; split <;> rfl
@[simp] theorem afterWrite_keepRunning (a : Addr) (v : Word) (s : State) : (afterWrite a v s).keepRunning = s.keepRunning := by unfold afterWrite; simp only [record]; split <;> rfl
@[simp] theorem afterWrite_phase (a : Addr) (v : Word) (s : State) : (afterWrite a v s).phase = s.phase := by unfold afterWrite; simp only [record]; split <;> rfl
@[simp] theorem afterWrite_scanRow (a : Addr) (v : Word) (s : State) : (afterWrite a v s).scanRow = s.scanRow := by unfold afterWrite; simp only [record]; split <;> rfl
@[simp] theorem afterWrite_ledRow (a : Addr) (v : Word) (s : State) : (afterWrite a v s).ledRow = s.ledRow := by unfold afterWrite; simp only [record]; split <;> rfl
@[simp] theorem afterWrite_firstIter (a : Addr) (v : Word) (s : State) : (afterWrite a v s).firstIter = s.firstIter := by unfold afterWrite; simp only [record]; split <;> rfl
@[simp] theorem afterWrite_sessionResult (a : Addr) (v : Word) (s : State) : (afterWrite a v s).sessionResult = s.sessionResult := by unfold afterWrite; simp only [record]; split <;> rfl
@[simp] theorem afterWrite_ports (a : Addr) (v : Word) (s : State) : (afterWrite a v s).ports = s.ports := by unfold afterWrite; simp only [record]; split <;> rfl
@[simp] theorem afterWrite_colIn (a : Addr) (v : Word) (s : State) : (afterWrite a v s).colIn = s.colIn := by unfold afterWrite; simp only [record]; split <;> rfl
@[simp] theorem afterWrite_ioOkScan (a : Addr) (v : Word) (s : State) : (afterWrite a v s).ioOkScan = s.ioOkScan := by unfold afterWrite; simp only [record]; split <;> rfl
@[simp] theorem afterWrite_ioOkDrive (a : Addr) (v : Word) (s : State) : (afterWrite a v s).ioOkDrive = s.ioOkDrive := by unfold afterWrite; simp only [record]; split <;> rfl
@[simp] theorem afterWrite_midTake (a : Addr) (v : Word) (s : State) : (afterWrite a v s).midTake = s.midTake := by unfold afterWrite; simp only [record]; split <;> rfl
@[simp] theorem afterWrite_agenda (a : Addr) (v : Word) (s : State) : (afterWrite a v s).agenda = s.agenda := by unfold afterWrite; simp only [record]; split <;> rfl
@[simp] theorem afterWrite_work (a : Addr) (v : Word) (s : State) : (afterWrite a v s).work = s.work := by unfold afterWrite; simp only [record]; split <;> rfl
@[simp] theorem afterWrite_trace (a : Addr) (v : Word) (s : State) : (afterWrite a v s).trace = s.trace ++ [.sim (.write a Config.simWordSize v (writeNow s))] := by unfold afterWrite; simp only [record]; split <;> rfl

@[simp] theorem afterSetReg_ps (a : Addr) (s : State) : (afterSetReg a s).ps = s.ps := by unfold afterSetReg; simp only [record]; split <;> rfl
@[simp] theorem afterSetReg_consoleAddress (a : Addr) (s : State) : (afterSetReg a s).consoleAddress = s.consoleAddress := by unfold afterSetReg; simp only [record]; split <;> rfl
@[simp] theorem afterSetReg_dataLatched (a : Addr) (s : State) : (afterSetReg a s).dataLatched = s.dataLatched := by unfold afterSetReg; simp only [record]; split <;> rfl
@[simp] theorem afterSetReg_useDataLatched (a : Addr) (s : State) : (afterSetReg a s).useDataLatched = s.useDataLatched := by unfold afterSetReg; simp only [record]; split <;> rfl
@[simp] theorem afterSetReg_ed (a : Addr) (s : State) : (afterSetReg a s).ed = s.ed := by unfold afterSetReg; simp only [record]; split <;> rfl
@[simp] theorem afterSetReg_rot1 (a : Addr) (s : State) : (afterSetReg a s).rot1 = s.rot1 := by unfold afterSetReg; simp only [record]; split <;> rfl
@[simp] theorem afterSetReg_rot2 (a : Addr) (s : State) : (afterSetReg a s).rot2 = s.rot2 := by unfold afterSetReg; simp only [record]; split <;> rfl
@[simp] theorem afterSetReg_blinkActive (a : Addr) (s : State) : (afterSetReg a s).blinkActive = s.blinkActive := by unfold afterSetReg; simp only [record]; split <;> rfl
@[simp] theorem afterSetReg_actBuf (a : Addr) (s : State) : (afterSetReg a s).actBuf = s.actBuf := by unfold afterSetReg; simp only [record]; split <;> rfl
@[simp] theorem afterSetReg_snap (a : Addr) (s : State) : (afterSetReg a s).snap = s.snap := by unfold afterSetReg; simp only [record]; split <;> rfl
@[simp] theorem afterSetReg_snapReady (a : Addr) (s : State) : (afterSetReg a s).snapReady = s.snapReady := by unfold afterSetReg; simp only [record]; split <;> rfl
@[simp] theorem afterSetReg_keepRunning (a : Addr) (s : State) : (afterSetReg a s).keepRunning = s.keepRunning := by unfold afterSetReg; simp only [record]; split <;> rfl
@[simp] theorem afterSetReg_phase (a : Addr) (s : State) : (afterSetReg a s).phase = s.phase := by unfold afterSetReg; simp only [record]; split <;> rfl
@[simp] theorem afterSetReg_scanRow (a : Addr) (s : State) : (afterSetReg a s).scanRow = s.scanRow := by unfold afterSetReg; simp only [record]; split <;> rfl
@[simp] theorem afterSetReg_ledRow (a : Addr) (s : State) : (afterSetReg a s).ledRow = s.ledRow := by unfold afterSetReg; simp only [record]; split <;> rfl
@[simp] theorem afterSetReg_firstIter (a : Addr) (s : State) : (afterSetReg a s).firstIter = s.firstIter := by unfold afterSetReg; simp only [record]; split <;> rfl
@[simp] theorem afterSetReg_sessionResult (a : Addr) (s : State) : (afterSetReg a s).sessionResult = s.sessionResult := by unfold afterSetReg; simp only [record]; split <;> rfl
@[simp] theorem afterSetReg_ports (a : Addr) (s : State) : (afterSetReg a s).ports = s.ports := by unfold afterSetReg; simp only [record]; split <;> rfl
@[simp] theorem afterSetReg_colIn (a : Addr) (s : State) : (afterSetReg a s).colIn = s.colIn := by unfold afterSetReg; simp only [record]; split <;> rfl
@[simp] theorem afterSetReg_ioOkScan (a : Addr) (s : State) : (afterSetReg a s).ioOkScan = s.ioOkScan := by unfold afterSetReg; simp only [record]; split <;> rfl
@[simp] theorem afterSetReg_ioOkDrive (a : Addr) (s : State) : (afterSetReg a s).ioOkDrive = s.ioOkDrive := by unfold afterSetReg; simp only [record]; split <;> rfl
@[simp] theorem afterSetReg_midTake (a : Addr) (s : State) : (afterSetReg a s).midTake = s.midTake := by unfold afterSetReg; simp only [record]; split <;> rfl
@[simp] theorem afterSetReg_agenda (a : Addr) (s : State) : (afterSetReg a s).agenda = s.agenda := by unfold afterSetReg; simp only [record]; split <;> rfl
@[simp] theorem afterSetReg_work (a : Addr) (s : State) : (afterSetReg a s).work = s.work := by unfold afterSetReg; simp only [record]; split <;> rfl
@[simp] theorem afterSetReg_trace (a : Addr) (s : State) : (afterSetReg a s).trace = s.trace ++ [.sim (.setReg Config.pcRegName (dec a) (setRegNow s))] := by unfold afterSetReg; simp only [record]; split <;> rfl

/-! ## endSession -/

@[simp] theorem endSession_ps (s : State) : (endSession s).ps = s.ps := rfl
@[simp] theorem endSession_consoleAddress (s : State) : (endSession s).consoleAddress = s.consoleAddress := rfl
@[simp] theorem endSession_dataLatched (s : State) : (endSession s).dataLatched = s.dataLatched := rfl
@[simp] theorem endSession_useDataLatched (s : State) : (endSession s).useDataLatched = s.useDataLatched := rfl
@[simp] theorem endSession_ed (s : State) : (endSession s).ed = s.ed := rfl
@[simp] theorem endSession_rot1 (s : State) : (endSession s).rot1 = s.rot1 := rfl
@[simp] theorem endSession_rot2 (s : State) : (endSession s).rot2 = s.rot2 := rfl
@[simp] theorem endSession_blinkActive (s : State) : (endSession s).blinkActive = s.blinkActive := rfl
@[simp] theorem endSession_actBuf (s : State) : (endSession s).actBuf = s.actBuf := rfl
@[simp] theorem endSession_snap (s : State) : (endSession s).snap = s.snap := rfl
@[simp] theorem endSession_snapReady (s : State) : (endSession s).snapReady = s.snapReady := rfl
@[simp] theorem endSession_keepRunning (s : State) : (endSession s).keepRunning = s.keepRunning := rfl
@[simp] theorem endSession_phase (s : State) : (endSession s).phase = .done := rfl
@[simp] theorem endSession_scanRow (s : State) : (endSession s).scanRow = s.scanRow := rfl
@[simp] theorem endSession_ledRow (s : State) : (endSession s).ledRow = s.ledRow := rfl
@[simp] theorem endSession_firstIter (s : State) : (endSession s).firstIter = s.firstIter := rfl
@[simp] theorem endSession_sessionResult (s : State) : (endSession s).sessionResult = s.sessionResult := rfl
@[simp] theorem endSession_ports (s : State) : (endSession s).ports = s.ports := rfl
@[simp] theorem endSession_colIn (s : State) : (endSession s).colIn = s.colIn := rfl
@[simp] theorem endSession_ioOkScan (s : State) : (endSession s).ioOkScan = s.ioOkScan := rfl
@[simp] theorem endSession_ioOkDrive (s : State) : (endSession s).ioOkDrive = s.ioOkDrive := rfl
@[simp] theorem endSession_midTake (s : State) : (endSession s).midTake = s.midTake := rfl
@[simp] theorem endSession_answers (s : State) : (endSession s).answers = s.answers := rfl
@[simp] theorem endSession_agenda (s : State) : (endSession s).agenda = s.agenda := rfl
@[simp] theorem endSession_work (s : State) : (endSession s).work = s.work := rfl
@[simp] theorem endSession_trace (s : State) : (endSession s).trace = s.trace := rfl
@[simp] theorem endSession_free (s : State) : (endSession s).free = s.free := rfl

/-! ## sampleEdge -/

@[simp] theorem sampleEdge_ps (k : Fin 9) (c : Bool) (s : State) : (sampleEdge k c s).ps = s.ps := rfl
@[simp] theorem sampleEdge_consoleAddress (k : Fin 9) (c : Bool) (s : State) : (sampleEdge k c s).consoleAddress = s.consoleAddress := rfl
@[simp] theorem sampleEdge_dataLatched (k : Fin 9) (c : Bool) (s : State) : (sampleEdge k c s).dataLatched = s.dataLatched := rfl
@[simp] theorem sampleEdge_useDataLatched (k : Fin 9) (c : Bool) (s : State) : (sampleEdge k c s).useDataLatched = s.useDataLatched := rfl
@[simp] theorem sampleEdge_ed (k : Fin 9) (c : Bool) (s : State) : (sampleEdge k c s).ed = s.ed.set k c := rfl
@[simp] theorem sampleEdge_rot1 (k : Fin 9) (c : Bool) (s : State) : (sampleEdge k c s).rot1 = s.rot1 := rfl
@[simp] theorem sampleEdge_rot2 (k : Fin 9) (c : Bool) (s : State) : (sampleEdge k c s).rot2 = s.rot2 := rfl
@[simp] theorem sampleEdge_blinkActive (k : Fin 9) (c : Bool) (s : State) : (sampleEdge k c s).blinkActive = s.blinkActive := rfl
@[simp] theorem sampleEdge_actBuf (k : Fin 9) (c : Bool) (s : State) : (sampleEdge k c s).actBuf = s.actBuf := rfl
@[simp] theorem sampleEdge_snap (k : Fin 9) (c : Bool) (s : State) : (sampleEdge k c s).snap = s.snap := rfl
@[simp] theorem sampleEdge_snapReady (k : Fin 9) (c : Bool) (s : State) : (sampleEdge k c s).snapReady = s.snapReady := rfl
@[simp] theorem sampleEdge_keepRunning (k : Fin 9) (c : Bool) (s : State) : (sampleEdge k c s).keepRunning = s.keepRunning := rfl
@[simp] theorem sampleEdge_phase (k : Fin 9) (c : Bool) (s : State) : (sampleEdge k c s).phase = s.phase := rfl
@[simp] theorem sampleEdge_scanRow (k : Fin 9) (c : Bool) (s : State) : (sampleEdge k c s).scanRow = s.scanRow := rfl
@[simp] theorem sampleEdge_ledRow (k : Fin 9) (c : Bool) (s : State) : (sampleEdge k c s).ledRow = s.ledRow := rfl
@[simp] theorem sampleEdge_firstIter (k : Fin 9) (c : Bool) (s : State) : (sampleEdge k c s).firstIter = s.firstIter := rfl
@[simp] theorem sampleEdge_sessionResult (k : Fin 9) (c : Bool) (s : State) : (sampleEdge k c s).sessionResult = s.sessionResult := rfl
@[simp] theorem sampleEdge_ports (k : Fin 9) (c : Bool) (s : State) : (sampleEdge k c s).ports = s.ports := rfl
@[simp] theorem sampleEdge_colIn (k : Fin 9) (c : Bool) (s : State) : (sampleEdge k c s).colIn = s.colIn := rfl
@[simp] theorem sampleEdge_ioOkScan (k : Fin 9) (c : Bool) (s : State) : (sampleEdge k c s).ioOkScan = s.ioOkScan := rfl
@[simp] theorem sampleEdge_ioOkDrive (k : Fin 9) (c : Bool) (s : State) : (sampleEdge k c s).ioOkDrive = s.ioOkDrive := rfl
@[simp] theorem sampleEdge_midTake (k : Fin 9) (c : Bool) (s : State) : (sampleEdge k c s).midTake = s.midTake := rfl
@[simp] theorem sampleEdge_answers (k : Fin 9) (c : Bool) (s : State) : (sampleEdge k c s).answers = s.answers := rfl
@[simp] theorem sampleEdge_agenda (k : Fin 9) (c : Bool) (s : State) : (sampleEdge k c s).agenda = s.agenda := rfl
@[simp] theorem sampleEdge_trace (k : Fin 9) (c : Bool) (s : State) : (sampleEdge k c s).trace = s.trace := rfl
@[simp] theorem sampleEdge_free (k : Fin 9) (c : Bool) (s : State) : (sampleEdge k c s).free = s.free := rfl

/-! ## readMailbox -/

@[simp] theorem readMailbox_ps (s : State) : (readMailbox s).ps = s.ps := rfl
@[simp] theorem readMailbox_consoleAddress (s : State) : (readMailbox s).consoleAddress = s.consoleAddress := rfl
@[simp] theorem readMailbox_dataLatched (s : State) : (readMailbox s).dataLatched = s.dataLatched := rfl
@[simp] theorem readMailbox_useDataLatched (s : State) : (readMailbox s).useDataLatched = s.useDataLatched := rfl
@[simp] theorem readMailbox_ed (s : State) : (readMailbox s).ed = s.ed := rfl
@[simp] theorem readMailbox_rot1 (s : State) : (readMailbox s).rot1 = s.rot1 := rfl
@[simp] theorem readMailbox_rot2 (s : State) : (readMailbox s).rot2 = s.rot2 := rfl
@[simp] theorem readMailbox_blinkActive (s : State) : (readMailbox s).blinkActive = s.blinkActive := rfl
@[simp] theorem readMailbox_actBuf (s : State) : (readMailbox s).actBuf = (takenValues s.snap s.midTake).act := rfl
@[simp] theorem readMailbox_snap (s : State) : (readMailbox s).snap = s.snap := rfl
@[simp] theorem readMailbox_snapReady (s : State) : (readMailbox s).snapReady = s.snapReady := rfl
@[simp] theorem readMailbox_keepRunning (s : State) : (readMailbox s).keepRunning = s.keepRunning := rfl
@[simp] theorem readMailbox_phase (s : State) : (readMailbox s).phase = s.phase := rfl
@[simp] theorem readMailbox_scanRow (s : State) : (readMailbox s).scanRow = s.scanRow := rfl
@[simp] theorem readMailbox_ledRow (s : State) : (readMailbox s).ledRow = s.ledRow := rfl
@[simp] theorem readMailbox_firstIter (s : State) : (readMailbox s).firstIter = s.firstIter := rfl
@[simp] theorem readMailbox_sessionResult (s : State) : (readMailbox s).sessionResult = s.sessionResult := rfl
@[simp] theorem readMailbox_ports (s : State) : (readMailbox s).ports = s.ports := rfl
@[simp] theorem readMailbox_colIn (s : State) : (readMailbox s).colIn = s.colIn := rfl
@[simp] theorem readMailbox_ioOkScan (s : State) : (readMailbox s).ioOkScan = s.ioOkScan := rfl
@[simp] theorem readMailbox_ioOkDrive (s : State) : (readMailbox s).ioOkDrive = s.ioOkDrive := rfl
@[simp] theorem readMailbox_midTake (s : State) : (readMailbox s).midTake = s.midTake := rfl
@[simp] theorem readMailbox_answers (s : State) : (readMailbox s).answers = s.answers := rfl
@[simp] theorem readMailbox_agenda (s : State) : (readMailbox s).agenda = s.agenda := rfl
@[simp] theorem readMailbox_trace (s : State) : (readMailbox s).trace = s.trace := rfl
@[simp] theorem readMailbox_free (s : State) : (readMailbox s).free = s.free := rfl

/-! ## landMidTake -/

@[simp] theorem landMidTake_ps (s : State) : (landMidTake s).ps = s.ps := by unfold landMidTake; split <;> rfl
@[simp] theorem landMidTake_consoleAddress (s : State) : (landMidTake s).consoleAddress = s.consoleAddress := by unfold landMidTake; split <;> rfl
@[simp] theorem landMidTake_dataLatched (s : State) : (landMidTake s).dataLatched = s.dataLatched := by unfold landMidTake; split <;> rfl
@[simp] theorem landMidTake_useDataLatched (s : State) : (landMidTake s).useDataLatched = s.useDataLatched := by unfold landMidTake; split <;> rfl
@[simp] theorem landMidTake_ed (s : State) : (landMidTake s).ed = s.ed := by unfold landMidTake; split <;> rfl
@[simp] theorem landMidTake_rot1 (s : State) : (landMidTake s).rot1 = s.rot1 := by unfold landMidTake; split <;> rfl
@[simp] theorem landMidTake_rot2 (s : State) : (landMidTake s).rot2 = s.rot2 := by unfold landMidTake; split <;> rfl
@[simp] theorem landMidTake_blinkActive (s : State) : (landMidTake s).blinkActive = s.blinkActive := by unfold landMidTake; split <;> rfl
@[simp] theorem landMidTake_actBuf (s : State) : (landMidTake s).actBuf = s.actBuf := by unfold landMidTake; split <;> rfl
@[simp] theorem landMidTake_keepRunning (s : State) : (landMidTake s).keepRunning = s.keepRunning := by unfold landMidTake; split <;> rfl
@[simp] theorem landMidTake_phase (s : State) : (landMidTake s).phase = s.phase := by unfold landMidTake; split <;> rfl
@[simp] theorem landMidTake_scanRow (s : State) : (landMidTake s).scanRow = s.scanRow := by unfold landMidTake; split <;> rfl
@[simp] theorem landMidTake_ledRow (s : State) : (landMidTake s).ledRow = s.ledRow := by unfold landMidTake; split <;> rfl
@[simp] theorem landMidTake_firstIter (s : State) : (landMidTake s).firstIter = s.firstIter := by unfold landMidTake; split <;> rfl
@[simp] theorem landMidTake_sessionResult (s : State) : (landMidTake s).sessionResult = s.sessionResult := by unfold landMidTake; split <;> rfl
@[simp] theorem landMidTake_ports (s : State) : (landMidTake s).ports = s.ports := by unfold landMidTake; split <;> rfl
@[simp] theorem landMidTake_colIn (s : State) : (landMidTake s).colIn = s.colIn := by unfold landMidTake; split <;> rfl
@[simp] theorem landMidTake_ioOkScan (s : State) : (landMidTake s).ioOkScan = s.ioOkScan := by unfold landMidTake; split <;> rfl
@[simp] theorem landMidTake_ioOkDrive (s : State) : (landMidTake s).ioOkDrive = s.ioOkDrive := by unfold landMidTake; split <;> rfl
@[simp] theorem landMidTake_answers (s : State) : (landMidTake s).answers = s.answers := by unfold landMidTake; split <;> rfl
@[simp] theorem landMidTake_agenda (s : State) : (landMidTake s).agenda = s.agenda := by unfold landMidTake; split <;> rfl
@[simp] theorem landMidTake_work (s : State) : (landMidTake s).work = s.work := by unfold landMidTake; split <;> rfl
@[simp] theorem landMidTake_trace (s : State) : (landMidTake s).trace = s.trace := by unfold landMidTake; split <;> rfl
@[simp] theorem landMidTake_free (s : State) : (landMidTake s).free = s.free := by unfold landMidTake; split <;> rfl

/-! ## latchWord -/

@[simp] theorem latchWord_ps (v : Word) (s : State) : (latchWord v s).ps = s.ps := rfl
@[simp] theorem latchWord_consoleAddress (v : Word) (s : State) : (latchWord v s).consoleAddress = s.consoleAddress + 1 := rfl
@[simp] theorem latchWord_dataLatched (v : Word) (s : State) : (latchWord v s).dataLatched = v := rfl
@[simp] theorem latchWord_useDataLatched (v : Word) (s : State) : (latchWord v s).useDataLatched = true := rfl
@[simp] theorem latchWord_ed (v : Word) (s : State) : (latchWord v s).ed = s.ed := rfl
@[simp] theorem latchWord_rot1 (v : Word) (s : State) : (latchWord v s).rot1 = s.rot1 := rfl
@[simp] theorem latchWord_rot2 (v : Word) (s : State) : (latchWord v s).rot2 = s.rot2 := rfl
@[simp] theorem latchWord_blinkActive (v : Word) (s : State) : (latchWord v s).blinkActive = s.blinkActive := rfl
@[simp] theorem latchWord_actBuf (v : Word) (s : State) : (latchWord v s).actBuf = s.actBuf := rfl
@[simp] theorem latchWord_snap (v : Word) (s : State) : (latchWord v s).snap = s.snap := rfl
@[simp] theorem latchWord_snapReady (v : Word) (s : State) : (latchWord v s).snapReady = s.snapReady := rfl
@[simp] theorem latchWord_keepRunning (v : Word) (s : State) : (latchWord v s).keepRunning = s.keepRunning := rfl
@[simp] theorem latchWord_phase (v : Word) (s : State) : (latchWord v s).phase = s.phase := rfl
@[simp] theorem latchWord_scanRow (v : Word) (s : State) : (latchWord v s).scanRow = s.scanRow := rfl
@[simp] theorem latchWord_ledRow (v : Word) (s : State) : (latchWord v s).ledRow = s.ledRow := rfl
@[simp] theorem latchWord_firstIter (v : Word) (s : State) : (latchWord v s).firstIter = s.firstIter := rfl
@[simp] theorem latchWord_sessionResult (v : Word) (s : State) : (latchWord v s).sessionResult = s.sessionResult := rfl
@[simp] theorem latchWord_ports (v : Word) (s : State) : (latchWord v s).ports = s.ports := rfl
@[simp] theorem latchWord_colIn (v : Word) (s : State) : (latchWord v s).colIn = s.colIn := rfl
@[simp] theorem latchWord_ioOkScan (v : Word) (s : State) : (latchWord v s).ioOkScan = s.ioOkScan := rfl
@[simp] theorem latchWord_ioOkDrive (v : Word) (s : State) : (latchWord v s).ioOkDrive = s.ioOkDrive := rfl
@[simp] theorem latchWord_midTake (v : Word) (s : State) : (latchWord v s).midTake = s.midTake := rfl
@[simp] theorem latchWord_answers (v : Word) (s : State) : (latchWord v s).answers = s.answers := rfl
@[simp] theorem latchWord_agenda (v : Word) (s : State) : (latchWord v s).agenda = s.agenda := rfl
@[simp] theorem latchWord_work (v : Word) (s : State) : (latchWord v s).work = s.work := rfl
@[simp] theorem latchWord_trace (v : Word) (s : State) : (latchWord v s).trace = s.trace := rfl
@[simp] theorem latchWord_free (v : Word) (s : State) : (latchWord v s).free = s.free := rfl

/-! ## arrive -/

@[simp] theorem arrive_ps (x : Stimulus) (a : Answers) (s : State) : (arrive x a s).ps = s.ps := rfl
@[simp] theorem arrive_consoleAddress (x : Stimulus) (a : Answers) (s : State) : (arrive x a s).consoleAddress = s.consoleAddress := rfl
@[simp] theorem arrive_dataLatched (x : Stimulus) (a : Answers) (s : State) : (arrive x a s).dataLatched = s.dataLatched := rfl
@[simp] theorem arrive_useDataLatched (x : Stimulus) (a : Answers) (s : State) : (arrive x a s).useDataLatched = s.useDataLatched := rfl
@[simp] theorem arrive_ed (x : Stimulus) (a : Answers) (s : State) : (arrive x a s).ed = s.ed := rfl
@[simp] theorem arrive_rot1 (x : Stimulus) (a : Answers) (s : State) : (arrive x a s).rot1 = s.rot1 := rfl
@[simp] theorem arrive_rot2 (x : Stimulus) (a : Answers) (s : State) : (arrive x a s).rot2 = s.rot2 := rfl
@[simp] theorem arrive_blinkActive (x : Stimulus) (a : Answers) (s : State) : (arrive x a s).blinkActive = s.blinkActive := rfl
@[simp] theorem arrive_actBuf (x : Stimulus) (a : Answers) (s : State) : (arrive x a s).actBuf = s.actBuf := rfl
@[simp] theorem arrive_phase (x : Stimulus) (a : Answers) (s : State) : (arrive x a s).phase = s.phase := rfl
@[simp] theorem arrive_scanRow (x : Stimulus) (a : Answers) (s : State) : (arrive x a s).scanRow = s.scanRow := rfl
@[simp] theorem arrive_ledRow (x : Stimulus) (a : Answers) (s : State) : (arrive x a s).ledRow = s.ledRow := rfl
@[simp] theorem arrive_firstIter (x : Stimulus) (a : Answers) (s : State) : (arrive x a s).firstIter = s.firstIter := rfl
@[simp] theorem arrive_sessionResult (x : Stimulus) (a : Answers) (s : State) : (arrive x a s).sessionResult = s.sessionResult := rfl
@[simp] theorem arrive_ports (x : Stimulus) (a : Answers) (s : State) : (arrive x a s).ports = s.ports := rfl
@[simp] theorem arrive_colIn (x : Stimulus) (a : Answers) (s : State) : (arrive x a s).colIn = x.levels := rfl
@[simp] theorem arrive_ioOkScan (x : Stimulus) (a : Answers) (s : State) : (arrive x a s).ioOkScan = x.ioOkScan := rfl
@[simp] theorem arrive_ioOkDrive (x : Stimulus) (a : Answers) (s : State) : (arrive x a s).ioOkDrive = x.ioOkDrive := rfl
@[simp] theorem arrive_midTake (x : Stimulus) (a : Answers) (s : State) : (arrive x a s).midTake = x.midTake := rfl
@[simp] theorem arrive_answers (x : Stimulus) (a : Answers) (s : State) : (arrive x a s).answers = a := rfl
@[simp] theorem arrive_agenda (x : Stimulus) (a : Answers) (s : State) : (arrive x a s).agenda = s.agenda := rfl
@[simp] theorem arrive_work (x : Stimulus) (a : Answers) (s : State) : (arrive x a s).work = s.work := rfl
@[simp] theorem arrive_trace (x : Stimulus) (a : Answers) (s : State) : (arrive x a s).trace = s.trace := rfl
@[simp] theorem arrive_free (x : Stimulus) (a : Answers) (s : State) : (arrive x a s).free = s.free := rfl

end Sys2Proof.Machine
end

