-- ==== Sys2Proof/Laws/Ops.lean ====
section
/-! SUPPORT. One lemma for each shared operation: everything it can do. -/

namespace Sys2Proof.Machine

/-! ## Sequencing -/

@[simp] theorem andThen_next (s : State) (f : State → Result) : andThen (.next s) f = f s := rfl
@[simp] theorem andThen_fault (r : Fault) (f : State → Result) : andThen (.fault r) f = .fault r := rfl
@[simp] theorem andThen_refused (r : Refusal) (f : State → Result) : andThen (.refused r) f = .refused r := rfl

theorem andThen_eq_next (o : Result) (f : State → Result) (t : State) :
    andThen o f = .next t ↔ ∃ s, o = .next s ∧ f s = .next t := by
  cases o <;> simp

theorem inSession_eq_next (s t : State) (o : Result) :
    inSession s o = .next t ↔ s.phase ≠ .done ∧ o = .next t := by
  unfold inSession; split <;> simp_all

theorem inIteration_eq_next (s t : State) (o : Result) :
    inIteration s o = .next t ↔ s.phase ≠ .done ∧ o = .next t := by
  unfold inIteration; split <;> simp_all

@[simp] theorem inSession_of_active (s : State) (o : Result) (h : s.phase ≠ .done) : inSession s o = o := by
  simp [inSession, h]

@[simp] theorem inIteration_of_active (s : State) (o : Result) (h : s.phase ≠ .done) : inIteration s o = o := by
  simp [inIteration, h]

/-! ## Bits -/

/-- `setBit` writes one bit and leaves the others. -/
theorem getLsbD_setBit {n : Nat} (v : BitVec n) (i j : Nat) (b : Bool) :
    (setBit v i b).getLsbD j = if j = i ∧ j < n then b else v.getLsbD j := by
  by_cases hn : j < n
  · have hbit : (1#n <<< i).getLsbD j = decide (j = i) := by
      rw [BitVec.getLsbD_shiftLeft, BitVec.getLsbD_one]
      by_cases hji : j = i
      · subst hji; simp [hn]; omega
      · by_cases hlt : j < i
        · simp [hji, hlt]
        · have : j - i ≠ 0 := by omega
          simp [hji, this]
    unfold setBit
    cases b
    · simp only [Bool.false_eq_true, if_false, BitVec.getLsbD_and, BitVec.getLsbD_not, hbit]
      by_cases hji : j = i <;> simp [hn, hji]
      subst hji; simp [hn]
    · simp only [if_true, BitVec.getLsbD_or, hbit]
      by_cases hji : j = i <;> simp [hn, hji]
      subst hji; simp [hn]
  · rw [BitVec.getLsbD_of_ge _ _ (by omega), BitVec.getLsbD_of_ge _ _ (by omega)]
    simp [hn]

/-- Within its 22 entries an activity buffer read by number is the entry. -/
theorem activity_getD (a : Activity) (i : Nat) (h : i < 22) : a.getD i 0 = a[i] := by
  simp [Vector.getD, h]

/-! ## What the parameters of spec/00_scope.md R9 come to at their values -/

@[simp] theorem swRowsHigh_eq : swRowsHigh = 0b111#3 := by decide
@[simp] theorem columnsHigh_eq : columnsHigh = 0xFFF#12 := by decide
@[simp] theorem ledRowsOff_eq : ledRowsOff = 0#6 := rfl
@[simp] theorem finRange_nSwRow : List.finRange Config.nSwRow = [0, 1, 2] := by decide
@[simp] theorem finRange_nLedRow : List.finRange Config.nLedRow = [0, 1, 2, 3, 4, 5] := by decide

/-- The code words of the results under `RESULT_CODE` (R119). -/
theorem resultWord_exit : resultWord .exit = 0 := rfl
theorem resultWord_restart : resultWord .restart = 1 := rfl
theorem resultWord_reload : resultWord .reload = 2 := rfl

/-- `RESULT_CODE` gives no two results one code. -/
theorem resultCode_injective {r q : SessionResult} (h : Config.resultCode r = Config.resultCode q) : r = q := by
  cases r <;> cases q <;> first | rfl | exact absurd h (by decide)

/-- The waits whose length the spec fixes, and the sign of the two it leaves open (R9, R370). -/
theorem delayUs_settle : Config.delayUs .settle = 50 := rfl
theorem delayUs_blank : Config.delayUs .blank = 100 := rfl
theorem delayUs_vis : Config.delayUs .vis = 1500 := rfl
theorem delayUs_modePause_pos : 0 < Config.delayUs .modePause := Nat.succ_pos _
theorem delayUs_idle_pos : 0 < Config.delayUs .idle := Nat.succ_pos _

/-- `LED_STATUS_ORDER` gives every column a flag. -/
theorem ledStatusOrder_length : Config.ledStatusOrder.length = Config.nCol := rfl

/-- `LED_STATUS_ORDER` gives no flag two columns. -/
theorem ledStatusOrder_nodup : Config.ledStatusOrder.Nodup := by decide

/-- Under any order, a flag of it has its lamp in the first column the order gives it (R101). -/
theorem statusLamp_idxOf (order : List Config.StatusFlag) (ps : PanelState) (f : Config.StatusFlag) (h : f ∈ order) :
    statusLamp order ps (order.idxOf f) = statusFlag ps f := by
  have hlt : order.idxOf f < order.length := List.idxOf_lt_length_of_mem h
  simp [statusLamp, List.getElem?_eq_getElem hlt]

/-- The lamp of a status flag in the grid (R101). -/
theorem ledCell_statusColumn (ps : PanelState) (act : Option Activity) (f : Config.StatusFlag) :
    ledCell ps act 2 (statusColumn f) = statusFlag ps f :=
  statusLamp_idxOf Config.ledStatusOrder ps f (by cases f <;> decide)

/-- Bit `j` of the assembled switch register (R97). -/
theorem assembleSr_getLsbD (raw : SwitchMatrix) (j : Nat) :
    (assembleSr raw).getLsbD j =
      if j < 12 then raw.row0.getLsbD j else decide (j < 22) && raw.row1.getLsbD (j - 12) := by
  have h : decide (j - 12 < Config.wSr - Config.nCol) = (decide (j < 22) || decide (j < 12)) := by
    simp only [Config.wSr, Config.nCol, ← Bool.decide_or]; exact decide_eq_decide.2 (by omega)
  by_cases hj : j < 12 <;>
    simp [assembleSr, BitVec.getLsbD_append, BitVec.getLsbD_extractLsb', hj, h]

/-- The source of every cell of the grid with the sizes written out (R98 to R106). -/
theorem ledCell_eq (ps : PanelState) (act : Option Activity) (r : Fin Config.nLedRow) (c : Nat) :
    ledCell ps act r c =
      match r with
      | 0 => addressLamp ps act c
      | 1 => if c < 10 then addressLamp ps act (12 + c) else false
      | 2 => statusLamp Config.ledStatusOrder ps c
      | 3 => ps.data.getLsbD c
      | 4 =>
        if c < 4 then ps.data.getLsbD (12 + c)
        else if c = 4 then ps.flagParLow
        else if c = 5 then ps.flagParHigh
        else if c < 10 then rotary1Lamp ps (c - 6)
        else rotary2Lamp ps (c - 10)
      | 5 =>
        if c < 6 then false
        else if c < 10 then rotary1Lamp ps (4 + (c - 6))
        else rotary2Lamp ps (2 + (c - 10)) := rfl

/-- `trunc_22` of the snapshot's program counter (R254). -/
theorem pc22_eq (S : Snapshot) : pc22 S = BitVec.ofNat 22 S.pc := rfl

/-- The register selector (R114, R260). -/
theorem regSelect_eq (S : Snapshot) (k : BitVec 3) :
    regSelect S k = if k = 7#3 then BitVec.ofNat 16 S.pc else snapReg S k := rfl

/-- The mode flags with the width written out (R112, R113, R252). -/
theorem ksuFlags_eq (ps : PanelState) (psw : RegWord) :
    ksuFlags ps psw =
      setMode ps (!(psw == 0#16) && pswMode psw == 0#2) (!(psw == 0#16) && pswMode psw == 1#2)
        (!(psw == 0#16) && pswMode psw == 3#2) := rfl

/-- One step of a decoder with the threshold written out: `ROT_CMP`, `ROT_SENS` at their values (R141 to R146). -/
theorem rotaryStep_eq (m : Nat) (rot : Rotary) (s : BitVec 2) :
    rotaryStep m rot s =
      if 4 ≤ rot.acc + quadDelta rot.lastState s then
        { lastState := s, acc := 0, position := (rot.position + 1) % m }
      else if rot.acc + quadDelta rot.lastState s ≤ -4 then
        { lastState := s, acc := 0, position := (rot.position + m - 1) % m }
      else { lastState := s, acc := rot.acc + quadDelta rot.lastState s, position := rot.position } := by
  have up : ∀ a : Int, (fires Config.rotCmp Config.rotSens a = true) = (4 ≤ a) := fun a => decide_eq_true_eq
  have down : ∀ a : Int, (fires Config.rotCmp Config.rotSens (-a) = true) = (a ≤ -4) := fun a => by
    rw [up]; exact propext ⟨by omega, by omega⟩
  simp only [rotaryStep, rotaryStepWith, down]
  simp only [up]

/-- Whatever the parameters, a step stores the new quadrature state (R141). -/
@[simp] theorem rotaryStepWith_lastState (cmp : Config.RotCmp) (sens : Int) (m : Nat) (d : Int) (rot : Rotary)
    (s : BitVec 2) : (rotaryStepWith cmp sens m d rot s).lastState = s := by
  unfold rotaryStepWith; simp only; split
  · rfl
  · split <;> rfl

/-! ## Row selection -/

theorem swrow_restored (r : Fin Config.nSwRow) : setBit (selectRow r) r.val true = 0b111#3 := by
  revert r; decide

theorem ledrow_single (r : Fin Config.nLedRow) : setBit (setBit 0#6 r.val true) r.val false = 0#6 := by
  revert r; decide

/-! ## The panel lines -/

/-- The events of one round of SCAN. -/
def scanRowEvents (levels : SwitchMatrix) (r : Fin Config.nSwRow) : List Event :=
  [.line (.swrow (selectRow r)), .wait .settle, .line (.readCols (levels.row r)), .line (.swrow 0b111#3)]

/-- The events of one successful SCAN (spec/95_test_vectors.md V-SCAN-1). -/
def scanEvents (levels : SwitchMatrix) : List Event :=
  Event.line (.colDir false) :: scanRowEvents levels 0 ++ scanRowEvents levels 1 ++ scanRowEvents levels 2 ++
    ([.line (.swrow 0b111#3), .wait .modePause, .line (.colDir true), .line (.colOut 0xFFF#12)] : List Event)

theorem scanOneRow_eq (r : Fin Config.nSwRow) (s : State) :
    scanOneRow r s =
      { s with
        scanRow := r
        ports.swrow := 0b111#3
        work.raw := s.work.raw.setRow r (~~~(s.colIn.row r))
        trace := s.trace ++ scanRowEvents s.colIn r } := by
  simp [scanOneRow, line, record, applyLine, scanRowEvents, waitFor, swrow_restored]

/-- All that a successful SCAN does (R162 to R164). -/
theorem scanLines_eq (s : State) :
    scanLines s =
      { s with
        scanRow := 2
        ports := { s.ports with swrow := 0b111#3, colDir := true, colOut := 0xFFF#12 }
        work.raw := ⟨~~~s.colIn.row0, ~~~s.colIn.row1, ~~~s.colIn.row2⟩
        work.scanOk := true
        trace := s.trace ++ scanEvents s.colIn } := by
  simp [scanLines, scanOneRow_eq, line, record, applyLine, waitFor, scanEvents, SwitchMatrix.setRow,
    SwitchMatrix.row]

/-- The events of one round of DRIVE. -/
def driveRowEvents (grid : LedGrid) (r : Fin Config.nLedRow) : List Event :=
  [.line (.colOut (columnLevels (grid.row r))), .wait .blank, .line (.ledrow (setBit 0#6 r.val true)), .wait .vis,
    .line (.ledrow 0#6)]

/-- The events of one successful DRIVE (V-DRV-1). -/
def driveEvents (grid : LedGrid) : List Event :=
  Event.line (.ledrow 0#6) :: driveRowEvents grid 0 ++ driveRowEvents grid 1 ++ driveRowEvents grid 2 ++
    driveRowEvents grid 3 ++ driveRowEvents grid 4 ++ driveRowEvents grid 5 ++
    ([.line (.colOut 0xFFF#12)] : List Event)

theorem driveOneRow_eq (grid : LedGrid) (r : Fin Config.nLedRow) (s : State) (h : s.ports.ledrow = 0#6) :
    driveOneRow grid r s =
      { s with
        ledRow := r
        ports := { s.ports with colOut := columnLevels (grid.row r), ledrow := 0#6 }
        trace := s.trace ++ driveRowEvents grid r } := by
  simp [driveOneRow, line, record, applyLine, driveRowEvents, waitFor, h, ledrow_single]

/-- All that a successful DRIVE does (R195 to R197). -/
theorem driveLines_eq (grid : LedGrid) (s : State) :
    driveLines grid s =
      { s with
        ledRow := 5
        ports := { s.ports with colOut := 0xFFF#12, ledrow := 0#6 }
        work.driveOk := true
        trace := s.trace ++ driveEvents grid } := by
  simp [driveLines, driveOneRow_eq, line, record, applyLine, driveEvents]

/-- All that a failed SCAN or DRIVE does (R166, R199, R301). -/
theorem ioFailure_eq (p : IoPhase) (s : State) :
    ioFailure p s =
      { s with
        ports := Config.freePorts s.free
        free := s.free + 1
        trace := s.trace ++
          [.linesUnknown (Config.freePorts s.free), .failure (.io p), .log .error (.ioFailure p)] } := by
  simp [ioFailure, record]

/-! ## The mailbox -/

/-- The flag is down after a take unless a snapshot landed during it (R71, R72). -/
theorem takeSnapshot_snapReady (s : State) : (takeSnapshot s).snapReady = s.midTake.isSome := by
  unfold takeSnapshot landMidTake readMailbox
  by_cases h : s.snapReady <;> cases s.midTake <;> simp [h]

/-- A take changes the mailbox, its flag, the activity buffer and the iteration's values, nothing else. -/
theorem takeSnapshot_frame (s : State) :
    takeSnapshot s =
      { s with
        snap := (takeSnapshot s).snap, snapReady := (takeSnapshot s).snapReady
        midTake := (takeSnapshot s).midTake, actBuf := (takeSnapshot s).actBuf
        work := (takeSnapshot s).work } := by
  unfold takeSnapshot landMidTake readMailbox
  by_cases h : s.snapReady <;> cases s.midTake <;> simp [h]

/-! ## The answered primitives -/

/-- One call of `SimHalted()` uses up an answer or a free value and is recorded; nothing else changes. -/
theorem afterHalted_frame (s : State) :
    afterHalted s =
      { s with
        answers := (afterHalted s).answers, free := (afterHalted s).free
        trace := s.trace ++ [.sim (.halted (haltedNow s))] } := by
  unfold afterHalted; simp only [record]; split <;> rfl

theorem afterHalted_answers (s : State) :
    (afterHalted s).answers = { s.answers with halted := s.answers.halted.tail } := by
  unfold afterHalted; cases h : s.answers with
  | mk hs rs ws ss => cases hs <;> simp [record]

theorem afterRead_answers (a : Addr) (s : State) :
    (afterRead a s).answers = { s.answers with reads := s.answers.reads.tail } := by
  unfold afterRead; cases h : s.answers with
  | mk hs rs ws ss => cases rs <;> simp [record]

theorem afterWrite_answers (a : Addr) (v : Word) (s : State) :
    (afterWrite a v s).answers = { s.answers with writes := s.answers.writes.tail } := by
  unfold afterWrite; cases h : s.answers with
  | mk hs rs ws ss => cases ws <;> simp [record]

theorem afterSetReg_answers (a : Addr) (s : State) :
    (afterSetReg a s).answers = { s.answers with setRegs := s.answers.setRegs.tail } := by
  unfold afterSetReg; cases h : s.answers with
  | mk hs rs ws ss => cases ss <;> simp [record]

/-- A read is stuck exactly where its prepared answer never returns. -/
theorem readStuck_iff (s : State) : readStuck s = true ↔ ∃ rest, s.answers.reads = .never :: rest := by
  unfold readStuck; cases s.answers.reads with
  | nil => simp
  | cons x xs => cases x <;> simp

/-- A write or a register set is stuck exactly where its prepared answer never returns. -/
theorem ackStuck_iff (prepared : List Ack) : ackStuck prepared = true ↔ ∃ rest, prepared = .never :: rest := by
  unfold ackStuck; cases prepared with
  | nil => simp
  | cons x xs => cases x <;> simp

/-! ## The commands -/

/-- The fields a console command can write: the console latches, the session's end, and the record of its calls. -/
def sameButCommands (s t : State) : Prop :=
  t = { s with
        consoleAddress := t.consoleAddress, dataLatched := t.dataLatched, useDataLatched := t.useDataLatched
        phase := t.phase, sessionResult := t.sessionResult
        answers := t.answers, free := t.free, trace := t.trace }

theorem sameButCommands_refl (s : State) : sameButCommands s s := rfl

theorem sameButCommands_trans {s t u : State} (h1 : sameButCommands s t) (h2 : sameButCommands t u) :
    sameButCommands s u := by
  unfold sameButCommands at *
  rw [h2, h1]

theorem loadAddress_frame (s : State) : sameButCommands s (loadAddress s) := by
  unfold loadAddress; split
  · split <;> (rw [afterHalted_frame]; rfl)
  · rfl

theorem afterHalted_sameButCommands (s : State) : sameButCommands s (afterHalted s) := by
  unfold sameButCommands; rw [afterHalted_frame]

theorem afterRead_sameButCommands (a : Addr) (s : State) : sameButCommands s (afterRead a s) := by
  unfold sameButCommands afterRead; simp only [record]; split <;> rfl

theorem afterWrite_sameButCommands (a : Addr) (v : Word) (s : State) : sameButCommands s (afterWrite a v s) := by
  unfold sameButCommands afterWrite; simp only [record]; split <;> rfl

theorem afterSetReg_sameButCommands (a : Addr) (s : State) : sameButCommands s (afterSetReg a s) := by
  unfold sameButCommands afterSetReg; simp only [record]; split <;> rfl

theorem record_sameButCommands (e : Event) (s : State) : sameButCommands s (record e s) := rfl

theorem latchWord_sameButCommands (v : Word) (s : State) : sameButCommands s (latchWord v s) := rfl

theorem examineWord_frame {s t : State} (h : examineWord s = .next t) : sameButCommands s t := by
  unfold examineWord at h
  dsimp only at h
  split at h
  · split at h
    · split at h
      · cases h
      · cases h
        refine sameButCommands_trans (afterHalted_sameButCommands s) ?_
        unfold readAnswered; split
        · exact sameButCommands_trans (afterRead_sameButCommands _ _) (latchWord_sameButCommands _ _)
        · exact sameButCommands_trans (afterRead_sameButCommands _ _) (record_sameButCommands _ _)
    · cases h; exact afterHalted_sameButCommands s
  · cases h; rfl

theorem depositWord_frame {s t : State} (h : depositWord s = .next t) : sameButCommands s t := by
  unfold depositWord at h
  dsimp only at h
  split at h
  · split at h
    · split at h
      · cases h
      · cases h
        refine sameButCommands_trans (afterHalted_sameButCommands s) ?_
        unfold writeAnswered; split
        · exact sameButCommands_trans (afterWrite_sameButCommands _ _ _) (latchWord_sameButCommands _ _)
        · exact sameButCommands_trans (afterWrite_sameButCommands _ _ _) (record_sameButCommands _ _)
    · cases h; exact afterHalted_sameButCommands s
  · cases h; rfl

theorem startCpu_frame {s t : State} (h : startCpu s = .next t) : sameButCommands s t := by
  unfold startCpu at h
  dsimp only at h
  split at h
  · split at h
    · split at h
      · cases h
      · cases h
        refine sameButCommands_trans (afterHalted_sameButCommands s) ?_
        unfold setRegAnswered; split
        · exact sameButCommands_trans
            (afterSetReg_sameButCommands (afterHalted s).consoleAddress (afterHalted s)) rfl
        · exact sameButCommands_trans (afterSetReg_sameButCommands _ _) (record_sameButCommands _ _)
    · cases h; exact afterHalted_sameButCommands s
  · cases h; rfl

theorem continueStep_frame (s : State) : sameButCommands s (continueStep s) := by
  unfold continueStep; split <;> rfl

theorem haltCpu_frame (s : State) : sameButCommands s (haltCpu s) := by
  unfold haltCpu; split
  · split
    · exact afterHalted_sameButCommands s
    · exact sameButCommands_trans (afterHalted_sameButCommands s) rfl
  · rfl

theorem enableCpu_frame (s : State) : sameButCommands s (enableCpu s) := by
  unfold enableCpu; split
  · split
    · exact sameButCommands_trans (afterHalted_sameButCommands s) rfl
    · exact afterHalted_sameButCommands s
  · rfl

theorem reloadSession_frame (s : State) : sameButCommands s (reloadSession s) := by
  unfold reloadSession; split <;> rfl

theorem restartSession_frame (s : State) : sameButCommands s (restartSession s) := by
  unfold restartSession; split <;> rfl

theorem testDump_frame (s : State) : sameButCommands s (testDump s) := by
  unfold testDump; split <;> rfl

/-- The command phase writes the console latches, the session's end and the record of its calls, nothing else. -/
theorem runCommands_frame {s t : State} (h : runCommands s = .next t) : sameButCommands s t := by
  unfold runCommands at h
  obtain ⟨a, ha, h⟩ := (andThen_eq_next _ _ _).1 h
  obtain ⟨b, hb, h⟩ := (andThen_eq_next _ _ _).1 h
  obtain ⟨c, hc, h⟩ := (andThen_eq_next _ _ _).1 h
  have h1 : sameButCommands s c :=
    sameButCommands_trans (sameButCommands_trans (loadAddress_frame s) (examineWord_frame ha))
      (sameButCommands_trans (depositWord_frame hb)
        (sameButCommands_trans (continueStep_frame b)
          (sameButCommands_trans (haltCpu_frame _) (sameButCommands_trans (enableCpu_frame _) (startCpu_frame hc)))))
  have h2 := sameButCommands_trans h1 (reloadSession_frame c)
  have h3 := sameButCommands_trans h2 (restartSession_frame _)
  simp only at h
  split at h
  · cases h; exact h2
  · split at h
    · cases h; exact h3
    · cases h; exact sameButCommands_trans h3 (testDump_frame _)

/-! ## The edge detectors -/

/-- Nine writes, one at each index, give the vector of the nine values, whatever was there before. -/
theorem set_all_nine {α : Type} (v : Vector α 9) (f : Fin 9 → α) :
    ((((((((v.set 0 (f 0)).set 1 (f 1)).set 2 (f 2)).set 3 (f 3)).set 4 (f 4)).set 5 (f 5)).set 6 (f 6)).set 7
      (f 7)).set 8 (f 8) = Vector.ofFn f := by
  ext i hi
  simp only [Vector.getElem_set, Vector.getElem_ofFn]
  interval_cases i <;> simp

/-- The nine samples: each detector holds its signal's value, each output compares it with the value held before
(R130, R283). -/
theorem sampleAllEdges_eq (s : State) :
    sampleAllEdges s =
      { s with
        ed := Vector.ofFn fun k => monitored s.ps k
        work.edges := Vector.ofFn fun k => edgeOutputs s.ed[k] (monitored s.ps k) } := by
  rw [← set_all_nine s.ed, ← set_all_nine s.work.edges]
  simp [sampleAllEdges, sampleEdge]

end Sys2Proof.Machine
end

