-- ==== Sys2Proof/Laws/Control.lean ====
section
/-! SUPPORT. What the commands, the derivations and CONTROL can do, said once for each. -/

namespace Sys2Proof.Machine

/-! ## Quiet operations: no line, no wait -/

/-- An event that touches no panel line and waits for nothing. -/
def quiet (e : Event) : Prop :=
  match e with
  | .line _ => False
  | .wait _ => False
  | .linesUnknown _ => False
  | _ => True

/-- `t` adds quiet events to the trace of `s`. -/
def addsQuietly (s t : State) : Prop := ∃ es, t.trace = s.trace ++ es ∧ ∀ e ∈ es, quiet e

theorem addsQuietly_refl (s : State) : addsQuietly s s := ⟨[], by simp, by simp⟩

theorem addsQuietly_of_eq {s t : State} (h : t.trace = s.trace) : addsQuietly s t := ⟨[], by simp [h], by simp⟩

theorem addsQuietly_one {s t : State} (e : Event) (h : t.trace = s.trace ++ [e]) (hq : quiet e) : addsQuietly s t :=
  ⟨[e], h, by simpa using hq⟩

theorem addsQuietly_trans {s t u : State} (h1 : addsQuietly s t) (h2 : addsQuietly t u) : addsQuietly s u := by
  obtain ⟨es, h1, q1⟩ := h1
  obtain ⟨fs, h2, q2⟩ := h2
  refine ⟨es ++ fs, by rw [h2, h1, List.append_assoc], fun e he => ?_⟩
  rcases List.mem_append.1 he with h | h
  · exact q1 e h
  · exact q2 e h

theorem afterHalted_addsQuietly (s : State) : addsQuietly s (afterHalted s) :=
  addsQuietly_one _ (afterHalted_trace s) trivial
theorem afterRead_addsQuietly (a : Addr) (s : State) : addsQuietly s (afterRead a s) :=
  addsQuietly_one _ (afterRead_trace a s) trivial
theorem afterWrite_addsQuietly (a : Addr) (v : Word) (s : State) : addsQuietly s (afterWrite a v s) :=
  addsQuietly_one _ (afterWrite_trace a v s) trivial
theorem afterSetReg_addsQuietly (a : Addr) (s : State) : addsQuietly s (afterSetReg a s) :=
  addsQuietly_one _ (afterSetReg_trace a s) trivial
theorem record_addsQuietly (e : Event) (s : State) (h : quiet e) : addsQuietly s (record e s) :=
  addsQuietly_one e rfl h

/-! ## What one command leaves to the next -/

/-- A command that is no session command: the frame, quiet events, the session going on, and the prepared answers
only used up. -/
structure PlainCommand (s t : State) : Prop where
  frame : sameButCommands s t
  quietly : addsQuietly s t
  phase : t.phase = s.phase
  result : t.sessionResult = s.sessionResult
  returns : everyCallReturns s.answers → everyCallReturns t.answers

theorem PlainCommand.trans {s t u : State} (h1 : PlainCommand s t) (h2 : PlainCommand t u) : PlainCommand s u :=
  ⟨sameButCommands_trans h1.frame h2.frame, addsQuietly_trans h1.quietly h2.quietly, h2.phase.trans h1.phase,
    h2.result.trans h1.result, fun h => h2.returns (h1.returns h)⟩

theorem PlainCommand.refl (s : State) : PlainCommand s s := ⟨rfl, addsQuietly_refl s, rfl, rfl, id⟩

theorem afterHalted_plain (s : State) : PlainCommand s (afterHalted s) :=
  ⟨afterHalted_sameButCommands s, afterHalted_addsQuietly s, by simp, by simp,
    fun h => by rw [afterHalted_answers]; exact h⟩

theorem afterRead_plain (a : Addr) (s : State) : PlainCommand s (afterRead a s) :=
  ⟨afterRead_sameButCommands a s, afterRead_addsQuietly a s, by simp, by simp, fun h => by
    rw [afterRead_answers]; exact ⟨fun hm => h.1 (List.mem_of_mem_tail hm), h.2⟩⟩

theorem afterWrite_plain (a : Addr) (v : Word) (s : State) : PlainCommand s (afterWrite a v s) :=
  ⟨afterWrite_sameButCommands a v s, afterWrite_addsQuietly a v s, by simp, by simp, fun h => by
    rw [afterWrite_answers]; exact ⟨h.1, fun hm => h.2.1 (List.mem_of_mem_tail hm), h.2.2⟩⟩

theorem afterSetReg_plain (a : Addr) (s : State) : PlainCommand s (afterSetReg a s) :=
  ⟨afterSetReg_sameButCommands a s, afterSetReg_addsQuietly a s, by simp, by simp, fun h => by
    rw [afterSetReg_answers]; exact ⟨h.1, h.2.1, fun hm => h.2.2 (List.mem_of_mem_tail hm)⟩⟩

theorem record_plain (e : Event) (s : State) (h : quiet e) : PlainCommand s (record e s) :=
  ⟨rfl, record_addsQuietly e s h, rfl, rfl, id⟩

theorem latchWord_plain (v : Word) (s : State) : PlainCommand s (latchWord v s) :=
  ⟨rfl, addsQuietly_of_eq rfl, rfl, rfl, id⟩

theorem loadAddress_plain (s : State) : PlainCommand s (loadAddress s) := by
  unfold loadAddress; split
  · split
    · exact (afterHalted_plain s).trans ⟨rfl, addsQuietly_of_eq rfl, rfl, rfl, id⟩
    · exact afterHalted_plain s
  · exact .refl s

theorem readAnswered_plain (s : State) : PlainCommand s (readAnswered s) := by
  unfold readAnswered; split
  · exact (afterRead_plain _ s).trans (latchWord_plain _ _)
  · exact (afterRead_plain _ s).trans (record_plain _ _ trivial)

theorem examineWord_plain {s t : State} (h : examineWord s = .next t) : PlainCommand s t := by
  unfold examineWord at h
  dsimp only at h
  split at h
  · split at h
    · split at h
      · cases h
      · cases h; exact (afterHalted_plain s).trans (readAnswered_plain _)
    · cases h; exact afterHalted_plain s
  · cases h; exact .refl s

theorem writeAnswered_plain (s : State) : PlainCommand s (writeAnswered s) := by
  unfold writeAnswered; dsimp only; split
  · exact (afterWrite_plain _ _ s).trans (latchWord_plain _ _)
  · exact (afterWrite_plain _ _ s).trans (record_plain _ _ trivial)

theorem depositWord_plain {s t : State} (h : depositWord s = .next t) : PlainCommand s t := by
  unfold depositWord at h
  dsimp only at h
  split at h
  · split at h
    · split at h
      · cases h
      · cases h; exact (afterHalted_plain s).trans (writeAnswered_plain _)
    · cases h; exact afterHalted_plain s
  · cases h; exact .refl s

theorem continueStep_plain (s : State) : PlainCommand s (continueStep s) := by
  unfold continueStep; split
  · exact (record_plain (.sim .singleStep) s trivial).trans (record_plain _ _ trivial)
  · exact .refl s

theorem haltCpu_plain (s : State) : PlainCommand s (haltCpu s) := by
  unfold haltCpu; split
  · split
    · exact afterHalted_plain s
    · exact (afterHalted_plain s).trans (record_plain _ _ trivial)
  · exact .refl s

theorem enableCpu_plain (s : State) : PlainCommand s (enableCpu s) := by
  unfold enableCpu; split
  · split
    · exact (afterHalted_plain s).trans
        ((record_plain (.sim .run) _ trivial).trans ⟨rfl, addsQuietly_of_eq rfl, rfl, rfl, id⟩)
    · exact afterHalted_plain s
  · exact .refl s

theorem setRegAnswered_plain (s : State) : PlainCommand s (setRegAnswered s) := by
  unfold setRegAnswered; split
  · exact (afterSetReg_plain _ s).trans
      ((record_plain (.sim .run) _ trivial).trans ⟨rfl, addsQuietly_of_eq rfl, rfl, rfl, id⟩)
  · exact (afterSetReg_plain _ s).trans (record_plain _ _ trivial)

theorem startCpu_plain {s t : State} (h : startCpu s = .next t) : PlainCommand s t := by
  unfold startCpu at h
  dsimp only at h
  split at h
  · split at h
    · split at h
      · cases h
      · cases h; exact (afterHalted_plain s).trans (setRegAnswered_plain _)
    · cases h; exact afterHalted_plain s
  · cases h; exact .refl s

theorem testDump_plain (s : State) : PlainCommand s (testDump s) := by
  unfold testDump; split
  · exact record_plain _ s trivial
  · exact .refl s

/-! ## The commands complete where every call returns -/

theorem readStuck_false {s : State} (h : everyCallReturns s.answers) : readStuck s = false := by
  unfold readStuck; split
  · rename_i hr; exact absurd (by rw [hr]; simp) h.1
  · rfl

theorem ackStuck_false {l : List Ack} (h : Ack.never ∉ l) : ackStuck l = false := by
  unfold ackStuck; split
  · exact absurd (by simp) h
  · rfl

theorem examineWord_completes {s : State} (h : everyCallReturns s.answers) : ∃ t, examineWord s = .next t := by
  have hs := readStuck_false ((afterHalted_plain s).returns h)
  unfold examineWord; simp only [hs]
  split_ifs <;> simp_all

theorem depositWord_completes {s : State} (h : everyCallReturns s.answers) : ∃ t, depositWord s = .next t := by
  have hs := ackStuck_false ((afterHalted_plain s).returns h).2.1
  unfold depositWord; simp only [hs]
  split_ifs <;> simp_all

theorem startCpu_completes {s : State} (h : everyCallReturns s.answers) : ∃ t, startCpu s = .next t := by
  have hs := ackStuck_false ((afterHalted_plain s).returns h).2.2
  unfold startCpu; simp only [hs]
  split_ifs <;> simp_all

/-! ## The command phase -/

/-- Everything the command phase can do: plain commands first, then RELOAD, RESTART and TEST by their edges, which no
command changes (R211, R283, R315). -/
theorem runCommands_cases {s t : State} (h : runCommands s = .next t) :
    ∃ a, PlainCommand s a ∧
      (((edgeOf 7 s).rise = true ∧ t = endSession { a with sessionResult := .reload }) ∨
        ((edgeOf 7 s).rise = false ∧ a.phase = .done ∧ t = a) ∨
        ((edgeOf 7 s).rise = false ∧ (edgeOf 8 s).rise = true ∧ a.phase ≠ .done ∧
          t = endSession { a with sessionResult := .restart }) ∨
        ((edgeOf 7 s).rise = false ∧ (edgeOf 8 s).rise = false ∧ a.phase ≠ .done ∧ t = testDump a)) := by
  unfold runCommands at h
  obtain ⟨x, hx, h⟩ := (andThen_eq_next _ _ _).1 h
  obtain ⟨y, hy, h⟩ := (andThen_eq_next _ _ _).1 h
  obtain ⟨z, hz, h⟩ := (andThen_eq_next _ _ _).1 h
  have hp : PlainCommand s z :=
    (loadAddress_plain s).trans ((examineWord_plain hx).trans ((depositWord_plain hy).trans
      ((continueStep_plain y).trans ((haltCpu_plain _).trans ((enableCpu_plain _).trans (startCpu_plain hz))))))
  have hw : z.work = s.work := by rw [hp.frame]
  have h7 : edgeOf 7 z = edgeOf 7 s := by simp [edgeOf, hw]
  have h8 : edgeOf 8 z = edgeOf 8 s := by simp [edgeOf, hw]
  refine ⟨z, hp, ?_⟩
  unfold reloadSession restartSession at h
  rw [h7] at h
  by_cases e7 : (edgeOf 7 s).rise = true
  · left; simpa [e7, endSession] using h.symm
  · simp only [e7, Bool.false_eq_true, if_false] at h
    by_cases hd : z.phase = .done
    · right; left; simp only [hd, if_true] at h; cases h; simp [e7, hd]
    · simp only [hd, if_false, h8] at h
      by_cases e8 : (edgeOf 8 s).rise = true
      · right; right; left; simp [e8, endSession] at h; simp [e7, e8, hd, endSession, h]
      · right; right; right
        simp only [e8, Bool.false_eq_true, if_false, hd] at h
        cases h; simp [e7, e8, hd]

theorem runCommands_completes {s : State} (h : everyCallReturns s.answers) : ∃ t, runCommands s = .next t := by
  obtain ⟨x, hx⟩ := examineWord_completes ((loadAddress_plain s).returns h)
  have px := (loadAddress_plain s).trans (examineWord_plain hx)
  obtain ⟨y, hy⟩ := depositWord_completes (px.returns h)
  have py := px.trans ((depositWord_plain hy).trans ((continueStep_plain y).trans ((haltCpu_plain _).trans
    (enableCpu_plain _))))
  obtain ⟨z, hz⟩ := startCpu_completes (py.returns h)
  unfold runCommands
  simp only [hx, hy, hz, andThen_next]
  split_ifs <;> exact ⟨_, rfl⟩

theorem runCommands_addsQuietly {s t : State} (h : runCommands s = .next t) : addsQuietly s t := by
  obtain ⟨a, hp, h | h | h | h⟩ := runCommands_cases h
  · rw [h.2]; exact addsQuietly_trans hp.quietly (addsQuietly_of_eq rfl)
  · rw [h.2.2]; exact hp.quietly
  · rw [h.2.2.2]; exact addsQuietly_trans hp.quietly (addsQuietly_of_eq rfl)
  · rw [h.2.2.2]; exact addsQuietly_trans hp.quietly (testDump_plain a).quietly

/-! ## The derivations -/

/-- The address DERIVE.ADDR shows (R254). -/
def shownAddress (S : Snapshot) (h : Bool) (s : State) : Addr :=
  if h || s.ps.r1Position == 3#3 then s.consoleAddress else pc22 S

/-- The data DERIVE.DATA leaves (R258). -/
def shownData (S : Snapshot) (h : Bool) (s : State) : Word :=
  if s.ps.r2Position = 3#2 then regSelect S (s.ps.switchState.setWidth 3)
  else if s.useDataLatched then s.dataLatched
  else if h then s.ps.switchState.setWidth Config.wData
  else s.ps.data

/-- The blinkenlight choice DERIVE.BLINK makes (R256). -/
def shownBlink (h : Bool) (s : State) : Bool := !h && s.ps.r1Position != 3#3

theorem deriveDisplayedData_eq (S : Snapshot) (h : Bool) (s : State) :
    deriveDisplayedData S h s = { s with ps.data := shownData S h s } := by
  unfold deriveDisplayedData shownData
  split
  · rfl
  · split
    · rfl
    · split <;> rfl

theorem deriveAddress_eq (S : Snapshot) (h : Bool) (s : State) :
    deriveAddress S h s = { s with ps.address := shownAddress S h s } := by
  unfold deriveAddress shownAddress; split <;> rfl

/-- All that the seven derivations do (R250 to R266). -/
theorem deriveAll_eq (S : Snapshot) (h : Bool) (s : State) :
    deriveAll S h s =
      { s with
        ps :=
          { s.ps with
            address := shownAddress S h s
            data := shownData S h s
            flagAddr16 := decide (S.pc < 2 ^ 16)
            flagAddr18 := decide (2 ^ 16 ≤ S.pc) && decide (S.pc < 2 ^ 18)
            flagAddr22 := decide (2 ^ 18 ≤ S.pc)
            flagKernel := !(S.psw == 0) && pswMode S.psw == 0#2
            flagSuper := !(S.psw == 0) && pswMode S.psw == 1#2
            flagUser := !(S.psw == 0) && pswMode S.psw == 3#2
            flagParLow := if shownBlink h s then s.ps.flagParLow else xorReduce (shownData S h s) 0 8
            flagParHigh := if shownBlink h s then s.ps.flagParHigh else xorReduce (shownData S h s) 8 6
            aux := Config.auxStatus s.free }
        blinkActive := shownBlink h s
        free := s.free + 1 } := by
  have e1 : ∀ u : State, deriveParityFlags u =
      { u with
        ps.flagParLow := if u.blinkActive then u.ps.flagParLow else xorReduce u.ps.data 0 8
        ps.flagParHigh := if u.blinkActive then u.ps.flagParHigh else xorReduce u.ps.data 8 6 } := by
    intro u; unfold deriveParityFlags
    by_cases hb : u.blinkActive = true
    · rw [if_pos hb, if_pos hb, if_pos hb]
    · rw [if_neg hb, if_neg hb, if_neg hb]; rfl
  unfold deriveAll
  simp only [e1, deriveDisplayedData_eq, deriveAddress_eq]
  rfl

/-! ## CONTROL -/

/-- Everything CONTROL can do after its mailbox read: the commands end the session, or the derivations follow. -/
theorem controlBody_cases {s t : State} (h : controlBody s = .next t) :
    ∃ c, runCommands (sampleAllEdges s) = .next c ∧
      ((c.phase = .done ∧ t = c) ∨
        (c.phase ≠ .done ∧ t = deriveAll c.work.snap (haltedNow c) (afterHalted c))) := by
  unfold controlBody at h
  obtain ⟨c, hc, h⟩ := (andThen_eq_next _ _ _).1 h
  refine ⟨c, hc, ?_⟩
  split at h
  · left; cases h; exact ⟨by assumption, rfl⟩
  · right; cases h; exact ⟨by assumption, rfl⟩

theorem controlBody_completes {s : State} (h : everyCallReturns s.answers) : ∃ t, controlBody s = .next t := by
  have h' : everyCallReturns (sampleAllEdges s).answers := by rw [sampleAllEdges_eq]; exact h
  obtain ⟨c, hc⟩ := runCommands_completes h'
  unfold controlBody; rw [hc, andThen_next]
  split_ifs <;> exact ⟨_, rfl⟩

theorem controlBody_addsQuietly {s t : State} (h : controlBody s = .next t) : addsQuietly s t := by
  obtain ⟨c, hc, hd⟩ := controlBody_cases h
  have h1 : addsQuietly s c :=
    addsQuietly_trans (addsQuietly_of_eq (by rw [sampleAllEdges_eq])) (runCommands_addsQuietly hc)
  rcases hd with ⟨-, rfl⟩ | ⟨-, rfl⟩
  · exact h1
  · exact addsQuietly_trans h1 (addsQuietly_trans (afterHalted_addsQuietly c)
      (addsQuietly_of_eq (by rw [deriveAll_eq])))

/-- The fields CONTROL's body can write: the derived fields of PanelState, the detectors, the outputs of the samples
and what the commands write. -/
theorem controlBody_frame {s t : State} (h : controlBody s = .next t) :
    t.ed = Vector.ofFn (fun k => monitored s.ps k) ∧
    t = { s with
          ps := { s.ps with
                  address := t.ps.address, data := t.ps.data, aux := t.ps.aux
                  flagAddr16 := t.ps.flagAddr16, flagAddr18 := t.ps.flagAddr18, flagAddr22 := t.ps.flagAddr22
                  flagKernel := t.ps.flagKernel, flagSuper := t.ps.flagSuper, flagUser := t.ps.flagUser
                  flagParLow := t.ps.flagParLow, flagParHigh := t.ps.flagParHigh }
          consoleAddress := t.consoleAddress, dataLatched := t.dataLatched, useDataLatched := t.useDataLatched
          ed := t.ed, blinkActive := t.blinkActive
          phase := t.phase, sessionResult := t.sessionResult
          answers := t.answers, trace := t.trace, free := t.free
          work := { s.work with edges := t.work.edges } } := by
  obtain ⟨c, hc, hd⟩ := controlBody_cases h
  have hf := runCommands_frame hc
  rw [sampleAllEdges_eq] at hf
  rcases hd with ⟨-, rfl⟩ | ⟨-, rfl⟩
  · rw [hf]; exact ⟨rfl, rfl⟩
  · rw [deriveAll_eq, afterHalted_frame]
    rw [hf]; exact ⟨rfl, rfl⟩

end Sys2Proof.Machine
end

