-- ==== Sys2Proof/Laws/Iteration.lean ====
section
/-! SUPPORT. What the phases and ITER can do, said once for each. -/

namespace Sys2Proof.Machine

/-! ## SCAN and DRIVE, failing or not -/

/-- All that SCAN does (R162, R166). -/
theorem scanMatrix_eq (s : State) :
    scanMatrix s =
      if s.ioOkScan then
        { s with
          scanRow := 2
          ports := { s.ports with swrow := 0b111#3, colDir := true, colOut := 0xFFF#12 }
          work.raw := ⟨~~~s.colIn.row0, ~~~s.colIn.row1, ~~~s.colIn.row2⟩
          work.scanOk := true
          trace := s.trace ++ scanEvents s.colIn }
      else
        { s with
          scanRow := Config.freeScanRow s.free
          work.scanOk := false
          ports := Config.freePorts s.free
          free := s.free + 1
          trace := s.trace ++
            [.linesUnknown (Config.freePorts s.free), .failure (.io .scan), .log .error (.ioFailure .scan)] } := by
  unfold scanMatrix
  split
  · exact scanLines_eq s
  · exact ioFailure_eq .scan _

/-- All that DRIVE does (R195, R199). -/
theorem driveGrid_eq (grid : LedGrid) (s : State) :
    driveGrid grid s =
      if s.ioOkDrive then
        { s with
          ledRow := 5
          ports := { s.ports with colOut := 0xFFF#12, ledrow := 0#6 }
          work.driveOk := true
          trace := s.trace ++ driveEvents grid }
      else
        { s with
          ledRow := Config.freeLedRow s.free
          work.driveOk := false
          ports := Config.freePorts s.free
          free := s.free + 1
          trace := s.trace ++
            [.linesUnknown (Config.freePorts s.free), .failure (.io .drive), .log .error (.ioFailure .drive)] } := by
  unfold driveGrid
  split
  · exact driveLines_eq grid s
  · exact ioFailure_eq .drive _

/-! ## The phases before CONTROL -/

/-- All that the scan, decode and feed phases do (R280, R282): where SCAN fails only what SCAN writes. -/
theorem samplePanel_eq (s : State) :
    samplePanel s =
      if s.ioOkScan then feedPhase (decodePhase (scanMatrix { s with phase := .scan }))
      else scanMatrix { s with phase := .scan } := by
  unfold samplePanel scanPhase
  simp only [scanMatrix_eq]
  by_cases h : s.ioOkScan = true
  · simp only [h, if_true]
  · simp only [h, Bool.false_eq_true, if_false]

/-- The scan, decode and feed phases leave the rest of FPC alone. -/
theorem samplePanel_frame (s : State) :
    samplePanel s =
      { s with
        ps := { s.ps with
                switchState := (samplePanel s).ps.switchState
                r1Position := (samplePanel s).ps.r1Position, r2Position := (samplePanel s).ps.r2Position
                swTest := (samplePanel s).ps.swTest, swLoadAddr := (samplePanel s).ps.swLoadAddr
                swExam := (samplePanel s).ps.swExam, swDep := (samplePanel s).ps.swDep
                swCont := (samplePanel s).ps.swCont, swEnableHalt := (samplePanel s).ps.swEnableHalt
                swSinstSbusCycle := (samplePanel s).ps.swSinstSbusCycle, swStart := (samplePanel s).ps.swStart
                r1Button := (samplePanel s).ps.r1Button, r2Button := (samplePanel s).ps.r2Button }
        rot1 := (samplePanel s).rot1, rot2 := (samplePanel s).rot2
        phase := (samplePanel s).phase, scanRow := (samplePanel s).scanRow
        ports := (samplePanel s).ports, work := (samplePanel s).work
        trace := (samplePanel s).trace, free := (samplePanel s).free } := by
  rw [samplePanel_eq]
  by_cases h : s.ioOkScan = true
  · rw [if_pos h, scanMatrix_eq, if_pos h]; rfl
  · rw [if_neg h, scanMatrix_eq, if_neg h]

/-- All that HALTCHK does (R286). -/
theorem haltCheck_eq (b : Bool) (s : State) :
    haltCheck b s =
      { s with
        firstIter := s.firstIter && !b
        trace := s.trace ++
          if s.firstIter = true ∧ b = true ∧ s.ps.swEnableHalt = false then [.sim .halt] else [] } := by
  by_cases h : s.firstIter = true ∧ b = true
  · obtain ⟨h1, rfl⟩ := h
    by_cases h2 : s.ps.swEnableHalt = false <;> simp [haltCheck, h1, h2, Config.startHaltLevel, simHalt, record]
  · have e1 : (s.firstIter && !b) = s.firstIter := by cases b <;> simp_all
    have e2 : ¬(s.firstIter = true ∧ b = true ∧ s.ps.swEnableHalt = false) := fun hc => h ⟨hc.1, hc.2.1⟩
    rw [e1, if_neg e2, List.append_nil, haltCheck, if_neg (by simpa using h)]

/-- Everything P_CONTROL can do. -/
theorem controlPhase_cases {s t : State} (h : controlPhase s = .next t) :
    (s.snapReady = false ∧
      t = waitFor .idle (takeSnapshot (haltCheck s.work.scanOk { s with phase := .control }))) ∨
    (s.snapReady = true ∧
      controlBody (takeSnapshot (haltCheck s.work.scanOk { s with phase := .control })) = .next t) := by
  unfold controlPhase at h
  have e : (takeSnapshot (haltCheck s.work.scanOk { s with phase := .control })).work.taken = s.snapReady := by
    unfold takeSnapshot landMidTake readMailbox
    simp only [haltCheck_eq]
    cases s.midTake <;> cases s.snapReady <;> rfl
  simp only [e] at h
  cases hr : s.snapReady
  · left; simp only [hr, Bool.false_eq_true, if_false] at h; cases h; exact ⟨rfl, rfl⟩
  · right; simp only [hr, if_true] at h; exact ⟨rfl, h⟩

/-! ## ITER -/

/-- Everything ITER can do: EXIT, or the phases, the redraw left out where the session ended in CONTROL (R280,
R281). -/
theorem iteration_cases {s t : State} (h : iteration s = .next t) :
    (s.keepRunning = false ∧ t = endIteration { s with phase := .done, sessionResult := .exit }) ∨
    (s.keepRunning = true ∧ ∃ c, controlPhase (samplePanel { s with phase := .stopchk }) = .next c ∧
      ((c.phase = .done ∧ t = endIteration c) ∨
        (c.phase ≠ .done ∧ t = endIteration (drivePhase (encodePhase c))))) := by
  unfold iteration stopPhase at h
  cases hk : s.keepRunning
  · left; simp [hk, endSession] at h; exact ⟨rfl, h.symm⟩
  · right
    simp only [hk, if_true, reduceCtorEq, if_false] at h
    obtain ⟨c, hc, h⟩ := (andThen_eq_next _ _ _).1 h
    refine ⟨rfl, c, hc, ?_⟩
    split at h
    · left; cases h; exact ⟨by assumption, rfl⟩
    · right; cases h; exact ⟨by assumption, rfl⟩

end Sys2Proof.Machine
end

