-- ==== Sys2Proof/Laws/Lines.lean ====
section
/-! SUPPORT. The panel lines, the calls and the waits along a trace that is put together from parts, and the invariant
of a state that agrees with another in what it speaks of. -/

namespace Sys2Proof.Machine

/-! ## Traces in parts -/

theorem portsAlong_append (p : Ports) (a b : List Event) :
    portsAlong p (a ++ b) = portsAlong p a ++ portsAlong (a.foldl portsAfter p) b := by
  induction a generalizing p with
  | nil => rfl
  | cons e a ih => simp [portsAlong, ih]

theorem directionKept_append (p : Ports) (a b : List Event) :
    directionKept p (a ++ b) ↔ directionKept p a ∧ directionKept (a.foldl portsAfter p) b := by
  induction a generalizing p with
  | nil => simp [directionKept]
  | cons e a ih => simp [directionKept, ih, and_assoc]

theorem leastDuration_append (a b : List Event) : leastDuration (a ++ b) = leastDuration a + leastDuration b := by
  induction a with
  | nil => simp [leastDuration]
  | cons e a ih => cases e <;> simp [leastDuration, ih, Nat.add_assoc]

theorem simCallsOf_append (a b : List Event) : simCallsOf (a ++ b) = simCallsOf a ++ simCallsOf b := by
  induction a with
  | nil => rfl
  | cons e a ih => cases e <;> simp [simCallsOf, ih]

/-! ## Quiet events leave the lines alone -/

theorem quiet_ports {es : List Event} (h : ∀ e ∈ es, quiet e) (p : Ports) :
    es.foldl portsAfter p = p ∧ (∀ q ∈ portsAlong p es, q = p) ∧ directionKept p es := by
  induction es with
  | nil => simp [portsAlong, directionKept]
  | cons e es ih =>
    have he := h e (by simp)
    have := ih (fun e he => h e (by simp [he]))
    cases e <;> simp [quiet] at he <;> simp [portsAfter, portsAlong, directionKept, this] <;> exact this.2.1

theorem quiet_blanking {es : List Event} (h : ∀ e ∈ es, quiet e) (p : Ports) (b : Bool) (r : List Event) :
    blankingKept p b (es ++ r) ↔ blankingKept p b r := by
  induction es generalizing b with
  | nil => simp
  | cons e es ih =>
    have he := h e (by simp)
    have := ih (fun e he => h e (by simp [he]))
    cases e <;> simp [quiet] at he <;> simp [blankingKept, portsAfter, this]

theorem quiet_duration {es : List Event} (h : ∀ e ∈ es, quiet e) : leastDuration es = 0 := by
  induction es with
  | nil => rfl
  | cons e es ih =>
    have he := h e (by simp)
    have := ih (fun e he => h e (by simp [he]))
    cases e <;> simp [quiet] at he <;> simpa [leastDuration] using this

/-! ## Agreeing states -/

/-- The invariant speaks of these fields only. -/
theorem Inv.of_eq {s t : State} (hi : Inv s)
    (k : t.ps.flagKernel = s.ps.flagKernel) (su : t.ps.flagSuper = s.ps.flagSuper) (u : t.ps.flagUser = s.ps.flagUser)
    (a16 : t.ps.flagAddr16 = s.ps.flagAddr16) (a18 : t.ps.flagAddr18 = s.ps.flagAddr18)
    (a22 : t.ps.flagAddr22 = s.ps.flagAddr22) (r1 : t.rot1 = s.rot1) (r2 : t.rot2 = s.rot2)
    (p1 : t.ps.r1Position = s.ps.r1Position) (p2 : t.ps.r2Position = s.ps.r2Position)
    (act : t.actBuf = s.actBuf) (snap : t.snap = s.snap) (mid : t.midTake = s.midTake) (ag : t.agenda = s.agenda)
    (io : noIoFailure t.trace → noIoFailure s.trace) (po : t.ports = s.ports) : Inv t := by
  refine ⟨?_, ?_, ?_, ?_, ?_, ?_, ?_, ?_, ?_, ?_, ?_⟩
  · rw [k, su, u]; exact hi.modes
  · rw [a16, a18, a22]; exact hi.ranges
  · rw [r1]; exact hi.decoder1
  · rw [r2]; exact hi.decoder2
  · rw [p1, r1]; exact hi.position1
  · rw [p2, r2]; exact hi.position2
  · rw [act]; exact hi.shown
  · rw [snap]; exact hi.mailbox
  · rw [mid]; exact hi.landing
  · rw [ag]; exact hi.coming
  · rw [po]; exact fun h => hi.lines (io h)

theorem noIoFailure_of_append {a b : List Event} (h : noIoFailure (a ++ b)) : noIoFailure a :=
  fun l hl => h l (List.mem_append_left _ hl)

end Sys2Proof.Machine
end

