-- ==== Sys2Proof/Tests/Slice0.lean ====
section
/-! SUPPORT. Tests: ill-formed terms refused, code words written out from spec/30_encoding.md, one step of vectors of
spec/95_test_vectors.md, and for each statement with hypotheses a concrete state and operands that meet them. -/

namespace Sys2Proof.Tests

open Sys2Proof Sys2Proof.Machine

/-! ## Helpers -/

/-- A state inside a session, lines idle. -/
def inside : State := { State.reset with phase := .stopchk }

/-- What an outcome's next state shows. -/
def look {α : Type} (o : Host.Outcome State Fault Refusal) (f : State → α) : Option α :=
  match o with
  | .next t => some (f t)
  | _ => none

theorem look_some {α : Type} {o : Host.Outcome State Fault Refusal} (f : State → α) {x : α} (h : look o f = some x) :
    ∃ t, o = .next t ∧ f t = x := by
  unfold look at h
  split at h
  · exact ⟨_, rfl, Option.some.inj h⟩
  · cases h

/-- A session state in which `e[k]` is the given edge and the answers are prepared. -/
def atEdge (k : Fin 9) (rise : Bool) (a : Answers) : State :=
  { inside with work.edges := inside.work.edges.set k { rise := rise, fall := !rise }, answers := a }

/-- Prepared answers of SimHalted(), the others given. -/
def prep (h : List Bool) (r : List ReadAnswer) (w x : List Ack) : Answers :=
  { halted := h, reads := r, writes := w, setRegs := x }

/-- A snapshot with a PC and a PSW. -/
def snapAt (pc : Nat) (psw : Word) : Snapshot := { zeroSnapshot with pc := pc, psw := psw }

/-- A snapshot is ready in a session. -/
def ready (S : Snapshot) (h : List Bool) : State :=
  { inside with snap := S, snapReady := true, answers := prep h [] [] [] }

/-! ## WellFormed refuses ill-formed terms -/

/-- A PC of more than `W_PC` bits. -/
theorem test_wide_pc_refused : ¬WellFormed (.deriveRange (snapAt (2 ^ Config.wPc) 0)) :=
  fun h => absurd h.1 (Nat.lt_irrefl _)

/-- A count beyond `ACT_DEPTH`, in a snapshot and in an activity buffer. -/
theorem test_deep_count_refused : ¬WellFormed (.encode (some (Vector.replicate 22 (Config.actDepth + 1)))) := by
  intro h
  have := h 0
  simp at this

theorem test_deep_snapshot_refused (h : Bool) :
    ¬WellFormed (.deriveAddr { zeroSnapshot with act := Vector.replicate 22 (Config.actDepth + 1) } h) := by
  intro w
  have := w.2 0
  simp at this

/-! ## Code words written out from the encodings -/

/-- SW `rr cccc`: row 0 column 0, row 1 column 9, row 1 column 11, row 2 column 7, row 2 column 11 (R92 to R96). -/
theorem test_decode_sw :
    [0b00_0000, 0b01_1001, 0b01_1011, 0b10_0111, 0b10_1011].map (fun w => (decode .sw w).toOption) =
      [some .swSr0, some .swSr21, some .swR2Button, some .swStart, some .swQ2b] := by decide

/-- SW: row 0 column 12 and row 3 column 0 are no cells. -/
theorem test_decode_sw_refused :
    [0b00_1100, 0b11_0000].map (fun w => (decode .sw w).toOption) = [none, none] := by decide

/-- LED `rrr cccc`: (0,11), (1,9), (1,10), (2,0), (2,4), (3,0), (4,3), (4,5), (5,11) (R98 to R106). -/
theorem test_decode_led :
    [0b000_1011, 0b001_1001, 0b001_1010, 0b010_0000, 0b010_0100, 0b011_0000, 0b100_0011, 0b100_0101, 0b101_1011].map
        (fun w => (decode .led w).toOption) =
      [some .ledAddrbit11, some .ledAddrbit21, some .ledUnused1At10, some .ledFlagAddr22, some .ledFlagKernel,
        some .ledData0, some .ledData15, some .ledParHigh, some .ledR2Pos3] := by decide

/-- QT `pp nn`: 00 to 01, 10 to 11, 11 to 00 (R108 to R111). -/
theorem test_decode_qt :
    [0b00_01, 0b10_11, 0b11_00].map (fun w => (decode .qt w).toOption) =
      [some .qtCw0001, some .qtCcw1011, some .qtJump1100] := by decide

/-- KSU `mm`, KSU16 and RSEL `kkk` (R112 to R114). -/
theorem test_decode_ksu_rsel :
    [0b00, 0b11].map (fun w => (decode .ksu w).toOption) = [some .ksuMode0, some .ksuMode3] ∧
      [0, 1].map (fun w => (decode .ksu16 w).toOption) = [some .ksuPswZero, none] ∧
      [0b000, 0b110, 0b111].map (fun w => (decode .rsel w).toOption) = [some .rselR0, some .rselSp, some .rselPc] := by
  decide

/-- EV `h p rr cccc`: the ten rows of R117, `p` = 1 rising, `h` = 1 halted. -/
theorem test_decode_ev :
    [0b1_0_10_0001, 0b1_0_10_0010, 0b1_0_10_0011, 0b0_0_10_0100, 0b0_0_10_0101, 0b1_1_10_0101, 0b1_0_10_0111,
        0b0_1_01_1010, 0b1_1_01_1011, 0b0_1_10_0000].map (fun w => (decode .ev w).toOption) =
      [some .loadAddr, some .exam, some .dep, some (.cont false), some .halt, some .enable, some .start,
        some (.reload false), some (.restart true), some (.test false)] := by decide

/-- EV: a rising LOAD_ADDR, a running EXAM and the edge of the S_INST switch select no command (R117, R118). -/
theorem test_decode_ev_none :
    [0b1_1_10_0001, 0b0_0_10_0010, 0b1_0_10_0110].map (fun w => (decode .ev w).toOption) = [none, none, none] := by
  decide

/-- PHASE and RESULT codes (R119, R120). -/
theorem test_decode_phase_result :
    [0, 1, 6, 7].map (fun w => (decode .phase w).toOption) =
        [some .phaseStopchk, some .phaseScan, some .phaseDrive, some .phaseDone] ∧
      [0, 1, 2, 3].map (fun w => (decode .result w).toOption) =
        [some .resultExit, some .resultRestart, some .resultReload, none] := by decide

/-! ## Vectors of spec/95_test_vectors.md, one step each -/

/-- Section 1.3 and V-DEC-4: the three rows of a raw matrix. -/
theorem test_decode_matrix :
    look (exec (.decode ⟨0x1FF, 0x3C0, 0x001⟩) inside) (fun t => (t.work.switches.sr, t.work.switches.swTest,
      t.work.switches.swLoadAddr, t.work.switches.r1Button, t.work.switches.q2b)) =
      some (0o17000777#22, true, false, false, false) := by decide

/-- V-DEC-1: EXAM, the second button and `q1b`. -/
theorem test_decode_matrix_buttons :
    look (exec (.decode ⟨0x200, 0x800, 0x204⟩) inside) (fun t => (t.work.switches.sr, t.work.switches.r1Button,
      t.work.switches.r2Button, t.work.switches.swExam, t.work.switches.q1a, t.work.switches.q1b)) =
      some (0o1000#22, false, true, true, false, true) := by decide

/-- V-SCAN-1: the events and the matrix. -/
theorem test_scan :
    look (exec .scan { inside with colIn := ⟨0xDFF, 0x7FF, 0xDFB⟩ }) (fun t => (t.work.raw, t.trace.length, t.trace[3]?,
      t.trace[10]?, t.ports)) =
      some (⟨0x200, 0x800, 0x204⟩, 17, some (Event.line (LineEvent.readCols 0xDFF)), some (Event.wait .settle),
        Ports.idle) := by decide

/-- V-EDGE-4: a falling sample. -/
theorem test_edge_falls :
    look (exec (.edgeSample 2 false) { inside with ed := inside.ed.set 2 true }) (fun t => (t.work.edges[2], t.ed[2])) =
      some (⟨false, true⟩, false) := by decide

/-- V-ROT-1: the fourth clockwise quarter-step moves the position. -/
theorem test_rotary_clockwise :
    look (exec (.rotAddDelta .rot1 false false) { inside with rot1 := ⟨2, 3, 0⟩ }) (fun t => t.rot1) =
      some ⟨0, 0, 1⟩ := by decide

/-- V-ROT-11: with `ROT_CMP` replaced by `>`, ten clockwise quarter-steps from (0, 0, 0) give (3, 0, 2). -/
theorem test_strict_comparison :
    ([1, 3, 2, 0, 1, 3, 2, 0, 1, 3] : List (BitVec 2)).foldl
      (fun rot q => rotaryStepWith .exceeding Config.rotSens Config.mR1 (quadDelta rot.lastState q) rot q) ⟨0, 0, 0⟩ =
      ⟨3, 0, 2⟩ := by decide

/-- The same steps under `ROT_CMP` (V-ROT-1: one position for every four quarter-steps, two left over). -/
theorem test_reaching_comparison :
    ([1, 3, 2, 0, 1, 3, 2, 0, 1, 3] : List (BitVec 2)).foldl (rotaryStep Config.mR1) ⟨0, 0, 0⟩ = ⟨3, 2, 2⟩ := by decide

/-- `ROT_PINMAP` and `BTN_PINMAP` replaced: the two encoders, and the two buttons, exchanged. -/
theorem test_other_pinmaps :
    (fun d => (d.q1a, d.q1b, d.q2a, d.q2b, d.r1Button, d.r2Button))
      (decodeWith ⟨10, 11, 8, 9⟩ ⟨11, 10⟩ ⟨0, 0x800, 0x600⟩) = (true, false, false, true, true, false) := by decide

/-- `LED_STATUS_ORDER` replaced by its reverse: RUN shows at column 2 in place of column 9. -/
theorem test_other_status_order :
    (fun ps => (List.range Config.nCol).map (ledCellWith Config.ledStatusOrder.reverse ps none 2))
      (PanelState.zero { data := false, master := false, pause := false, run := true, addrErr := false, parErr := false }) =
      [false, false, true, false, false, false, false, false, false, false, false, false] := by decide

/-- V-ROT-3: counter-clockwise from 0 wraps to 3 with modulus 4. -/
theorem test_rotary_wraps_down :
    look (exec (.rotAddDelta .rot2 false false) { inside with rot2 := ⟨1, -3, 0⟩ }) (fun t => t.rot2) =
      some ⟨0, 0, 3⟩ := by decide

/-- Program P1, iteration 6: EXAM at 0o1000. -/
theorem test_exam :
    look (exec .exam { atEdge 2 false (prep [true] [.ok 0o012700] [] []) with consoleAddress := 0o1000 })
      (fun t => (t.consoleAddress, t.dataLatched, t.useDataLatched)) = some (0o1001#22, 0o012700#16, true) := by decide

/-- V-CMD-6: the address wraps at 2^22. -/
theorem test_exam_wraps :
    look (exec .exam { atEdge 2 false (prep [true] [.ok 1] [] []) with consoleAddress := 0o17777777 })
      (fun t => t.consoleAddress) = some 0#22 := by decide

/-- Program P2, iteration 8: a failed DEP leaves the latch and the address. -/
theorem test_dep_fails :
    look (exec .dep { atEdge 3 false (prep [true] [] [.failed] []) with consoleAddress := 0o1001, dataLatched := 7 })
      (fun t => (t.consoleAddress, t.dataLatched, t.useDataLatched, t.trace.getLast?)) =
      some (0o1001#22, 7#16, false, some (.failure (.sim .dep))) := by decide

/-- Program P2, iteration 13: START at 0o1000 runs and disowns the latch. -/
theorem test_start :
    look (exec .start { atEdge 6 false (prep [true] [] [] [.ok]) with consoleAddress := 0o1000, useDataLatched := true })
      (fun t => (t.useDataLatched, t.trace.getLast?)) = some (false, some (.sim .run)) := by decide

/-- Program P2, iteration 13: the numeral given to SimSetReg. -/
theorem test_decimal : dec 0o1000 = "512" := by decide

/-- HALT asks for a halt while running, not while halted (R228). -/
theorem test_halt :
    look (exec .halt (atEdge 5 false (prep [false] [] [] []))) (fun t => t.trace) =
        some [.sim (.halted false), .sim .halt] ∧
      look (exec .halt (atEdge 5 false (prep [true] [] [] []))) (fun t => t.trace) = some [.sim (.halted true)] := by
  decide

/-- Section 1.7: PSW 0xC000 is user mode, PSW 0 no mode. -/
theorem test_modes :
    [0xC000, 0].map (fun psw => look (exec (.deriveKsu (snapAt 0 psw)) inside)
      (fun t => (t.ps.flagKernel, t.ps.flagSuper, t.ps.flagUser))) =
      [some (false, false, true), some (false, false, false)] := by decide

/-- Section 1.5: the range flags at the borders. -/
theorem test_ranges :
    [65535, 65536, 262143, 262144].map (fun pc => look (exec (.deriveRange (snapAt pc 0)) inside)
      (fun t => (t.ps.flagAddr16, t.ps.flagAddr18, t.ps.flagAddr22))) =
      [some (true, false, false), some (false, true, false), some (false, true, false), some (false, false, true)] := by
  decide

/-- Program P2, iteration 10: the parities of 0o777. -/
theorem test_parity :
    look (exec .deriveParity { inside with ps.data := 0o777 }) (fun t => (t.ps.flagParLow, t.ps.flagParHigh)) =
      some (false, true) := by decide

/-- Program P3, iteration 14: the PC is shown at position 3 with selector 7. -/
theorem test_data_register :
    look (exec (.deriveData (snapAt 0o1002 0) true)
      { inside with ps.r2Position := 3, ps.switchState := 7 }) (fun t => t.ps.data) = some 0o1002#16 := by decide

/-- Program P2, iteration 14: counts of 51 light and counts of 50 stay dark (R100). -/
theorem test_activity_lamps :
    look (exec (.encode (some (Vector.ofFn fun i : Fin 22 =>
      if i.val = 0 then 20 else if i.val = 1 ∨ i.val = 9 then 100 else if i.val = 2 then 51 else if i.val = 3 then 50
      else if i.val = 12 then 60 else 0))) inside) (fun t => (t.work.grid.row0, t.work.grid.row1)) =
      some (0x206#12, 0x001#12) := by decide

/-- Program P3, iteration 14: the rotary lamps at positions 1 and 3. -/
theorem test_rotary_lamps :
    look (exec (.encode none) { inside with ps.r1Position := 1, ps.r2Position := 3, ps.flagParLow := true,
                                            ps.flagParHigh := true }) (fun t => (t.work.grid.row4, t.work.grid.row5)) =
      some (0x0B0#12, 0x800#12) := by decide

/-- V-DRV-1: the columns are the inverse of the pattern, one row at a time. -/
theorem test_drive :
    look (exec (.drive ⟨0x200, 0, 0, 0, 0, 0⟩) inside) (fun t => (t.trace.take 4, t.ports)) =
      some ([.line (.ledrow 0), .line (.colOut 0xDFF), .wait .blank, .line (.ledrow 1)], Ports.idle) := by decide

/-- Program P4, session 1 iteration 2: the halt check of the first successful scan. -/
theorem test_haltcheck :
    look (exec (.haltchk true) { inside with firstIter := true }) (fun t => (t.firstIter, t.trace)) =
      some (false, [.sim .halt]) := by decide

/-- Program P4, session 1 iteration 4: both buttons, RELOAD wins. -/
theorem test_reload_first :
    look (exec .control { ready (snapAt 0o200000 0o40000) [] with ps.r1Button := true, ps.r2Button := true })
      (fun t => (t.phase, t.sessionResult, t.ed.toList)) =
      some (.done, .reload, [false, false, false, false, false, false, false, true, true]) := by decide

/-- A step runs the word at the head of the agenda: 0xA1 while halted loads the address (R212). -/
theorem test_step_runs_word :
    look (step ({ inside with ps.switchState := 0o1000 }.withFetchWord 8 0xA1)) (fun t => (t.consoleAddress, t.agenda)) =
      some (0o1000#22, []) := by decide

/-! ## Witnesses: states and operands that meet the hypotheses of the statements -/

theorem witness_EventWordsMatchAndMask :
    decode .ev 0 = .error .noCommand ∧ decode .ev 255 = .error .noCommand ∧
      ({ inside with agenda := [.word 8 255] } : State).agenda = .word 8 255 :: [] ∧ 255 < 256 ∧
      decodeWord 8 255 = .error .noCommand := ⟨rfl, rfl, rfl, by decide, rfl⟩

theorem witness_StepRunsDecodedWord :
    ({ inside with agenda := [.word 8 0xA1] } : State).agenda = .word 8 0xA1 :: [] ∧
      decodeWord 8 0xA1 = .ok .loadAddr := ⟨rfl, rfl⟩

/-- An iteration at the head; an empty agenda in P_DONE; an empty agenda in a session. -/
theorem witness_StepRunsIteration (x : Stimulus) :
    ({ inside with agenda := [.iteration x Answers.none] } : State).agenda = .iteration x Answers.none :: [] ∧
      (State.reset.agenda = [] ∧ State.reset.phase = .done) ∧ inside.agenda = [] ∧ inside.phase ≠ .done :=
  ⟨rfl, ⟨rfl, rfl⟩, rfl, by decide⟩

theorem witness_SessionStartResets :
    ({ State.reset with agenda := [.startSession] } : State).agenda = .startSession :: [] ∧
      ({ State.reset with agenda := [.startSession] } : State).phase = .done ∧
      ({ inside with agenda := [.startSession] } : State).phase ≠ .done := ⟨rfl, rfl, by decide⟩

/-- A word that is no event and a word that is one. -/
theorem witness_FetchedWordRunsNext :
    (decodeWord 8 0x30 = .ok .ledData0 ∧ encode .ledData0 = some (.led, 0x30) ∧ Format.led ≠ .ev) ∧
      decodeWord 8 0xA7 = .ok .start ∧ encode .start = some (.ev, 0xA7) ∧ signalAt (0xA7 % 64) = some 6 :=
  ⟨⟨rfl, rfl, by decide⟩, rfl, rfl, rfl⟩

theorem witness_StepKeepsInvariant :
    Inv { inside with agenda := [.word 2 2] } ∧
      ∃ t, step { inside with agenda := [.word 2 2] } = .next t ∧ t.sessionResult = .reload := by
  refine ⟨⟨?_, ?_, ?_, ?_, rfl, rfl, ?_, ?_, ?_, ?_, fun _ => rfl⟩, _, rfl, rfl⟩
  · unfold atMostOneFlag; decide
  · unfold atMostOneFlag; decide
  · unfold rotaryInv; decide
  · unfold rotaryInv; decide
  · intro i; simp [inside, State.reset]
  · intro i; simp [inside, State.reset, zeroSnapshot]
  · intro x h; cases h
  · intro x h
    rcases List.mem_singleton.1 h with rfl
    trivial

/-- PanelPhases, IterationCompletes, LoadAddrLoadsSwitchRegister and every other statement about a session. -/
theorem witness_PanelPhases : inside.phase ≠ .done := by decide

theorem witness_SwitchRegisterRows :
    (Instr.swSr11, 11) ∈ ([(.swSr0, 0), (.swSr11, 11)] : List (Instr × Nat)) ∧
      (Instr.swSr21, 9) ∈ ([(.swSr12, 0), (.swSr21, 9)] : List (Instr × Nat)) ∧ 0 < 22 ∧ 21 < 22 := by decide

theorem witness_DecodePlacesEveryCell : 0 < 12 ∧ 11 < 12 ∧ 0 < 10 ∧ 9 < 10 := by decide

theorem witness_AddressLampRows :
    (Instr.ledAddrbit11, 11) ∈ ([(.ledAddrbit0, 0), (.ledAddrbit11, 11)] : List (Instr × Nat)) ∧
      (Instr.ledAddrbit21, 9) ∈ ([(.ledAddrbit12, 0), (.ledAddrbit21, 9)] : List (Instr × Nat)) := by decide

theorem witness_FlagDataAndRotaryLampRows :
    (Instr.ledData11, 11) ∈ ([(.ledData0, 0), (.ledData11, 11)] : List (Instr × Nat)) ∧
      (Instr.ledData15, 3) ∈ ([(.ledData12, 0), (.ledData15, 3)] : List (Instr × Nat)) := by decide

theorem witness_ScanReadsTheMatrix :
    inside.ioOkScan = true ∧ inside.phase ≠ .done ∧ inside.ports.swrow = 0b111#3 := by decide

theorem witness_FailedScanAndDrive :
    ({ inside with ioOkScan := false } : State).ioOkScan = false ∧
      ({ inside with ioOkDrive := false } : State).ioOkDrive = false ∧ inside.phase ≠ .done := by decide

/-- A full turn from the last position of encoder 2, and inputs that reach 3 but not 4. -/
theorem witness_FourQuarterStepsMoveOnePosition :
    let s : State := { inside with rot2 := ⟨3, 0, 3⟩ }
    ((decoderOf .rot2 s).lastState = quadState true true ∧ (decoderOf .rot2 s).acc = 0 ∧
      (decoderOf .rot2 s).position < positionsOf .rot2) ∧
      belowThreshold (decoderOf .rot2 s).lastState (decoderOf .rot2 s).acc
        [(true, false), (false, false), (false, true), (false, false)] := by
  unfold belowThreshold belowThreshold belowThreshold belowThreshold belowThreshold
  decide

theorem witness_RotaryPolarity :
    (let s : State := inside
     let u : State := { inside with rot1 := ⟨3, 0, 0⟩ }
     (decoderOf .rot1 u).lastState = ~~~(decoderOf .rot1 s).lastState ∧ (decoderOf .rot1 u).acc = (decoderOf .rot1 s).acc ∧
       (decoderOf .rot1 u).position = (decoderOf .rot1 s).position) ∧
      let s : State := { inside with rot1 := ⟨1, 3, 7⟩ }
      let u : State := { inside with rot1 := ⟨2, -3, 1⟩ }
      (decoderOf .rot1 s).lastState = quadState false true ∧ (decoderOf .rot1 u).lastState = quadState true false ∧
        (decoderOf .rot1 u).acc = -(decoderOf .rot1 s).acc ∧
        ((decoderOf .rot1 u).position + (decoderOf .rot1 s).position) % positionsOf .rot1 = 0 := by decide

theorem witness_EdgesFireOncePerTransition : 0 < [true].length ∧ 2 < [true, false, true].length := by decide

theorem witness_DeriveParityCountsBits :
    inside.blinkActive = false ∧ ({ inside with blinkActive := true } : State).blinkActive = true := by decide

theorem witness_EncodePlacesEveryCell : 0 < 12 ∧ 11 < 12 ∧ 9 < 10 ∧ 3 < 4 ∧ 1 < 2 ∧ 5 < 6 := by decide

theorem witness_DriveSequence : inside.ioOkDrive = true ∧ inside.phase ≠ .done := by decide

/-- Every answer prepared, and none. -/
theorem witness_PrimitiveCallsAndAnswers :
    (let s : State := { inside with answers := prep [true] [.never] [.failed] [.ok] }
     s.answers.halted = true :: [] ∧ s.answers.reads = .never :: [] ∧ s.answers.writes = .failed :: [] ∧
       s.answers.setRegs = .ok :: []) ∧
      inside.answers.halted = [] ∧ inside.answers.reads = [] ∧ inside.answers.writes = [] ∧
      inside.answers.setRegs = [] := by decide

theorem witness_DecimalNumeralOfAddress : (1 : Addr) ≠ 0 ∧ (0x3FFFFF : Addr) ≠ 0 := by decide

theorem witness_LoadAddrLoadsSwitchRegister :
    (let s := atEdge 1 false (prep [true] [] [] [])
     s.phase ≠ .done ∧ (edgeOf 1 s).fall = true ∧ haltedNow s = true) ∧
      haltedNow (atEdge 1 false (prep [false] [] [] [])) = false ∧ (edgeOf 1 inside).fall = false := by decide

/-- A read that succeeds, one that fails, the running simulator, no edge. -/
theorem witness_ExamReadsAndAdvances :
    (let s := atEdge 2 false (prep [true] [.ok 7] [] [])
     s.phase ≠ .done ∧ (edgeOf 2 s).fall = true ∧ haltedNow s = true ∧ readNow (afterHalted s) = .ok 7) ∧
      readNow (afterHalted (atEdge 2 false (prep [true] [.failed] [] []))) = .failed ∧
      haltedNow (atEdge 2 false (prep [false] [] [] [])) = false ∧ (edgeOf 2 inside).fall = false := by decide

theorem witness_DepWritesAndAdvances :
    (let s := atEdge 3 false (prep [true] [] [.ok] [])
     s.phase ≠ .done ∧ (edgeOf 3 s).fall = true ∧ haltedNow s = true ∧ writeNow (afterHalted s) = .ok) ∧
      writeNow (afterHalted (atEdge 3 false (prep [true] [] [.failed] []))) = .failed ∧
      haltedNow (atEdge 3 false (prep [false] [] [] [])) = false ∧ (edgeOf 3 inside).fall = false := by decide

theorem witness_ContStepsAndTestDumps :
    inside.phase ≠ .done ∧ (edgeOf 4 (atEdge 4 false Answers.none)).fall = true ∧ (edgeOf 4 inside).fall = false ∧
      (edgeOf 0 (atEdge 0 true Answers.none)).rise = true ∧ (edgeOf 0 inside).rise = false := by decide

theorem witness_HaltAndEnable :
    (let s := atEdge 5 false (prep [false] [] [] [])
     s.phase ≠ .done ∧ (edgeOf 5 s).fall = true ∧ haltedNow s = false) ∧
      haltedNow (atEdge 5 false (prep [true] [] [] [])) = true ∧ (edgeOf 5 inside).fall = false ∧
      (let s := atEdge 5 true (prep [true] [] [] [])
       (edgeOf 5 s).rise = true ∧ haltedNow s = true) ∧
      haltedNow (atEdge 5 true (prep [false] [] [] [])) = false ∧ (edgeOf 5 inside).rise = false := by decide

theorem witness_StartSetsPcAndRuns :
    (let s := atEdge 6 false (prep [true] [] [] [.ok])
     s.phase ≠ .done ∧ (edgeOf 6 s).fall = true ∧ haltedNow s = true ∧ setRegNow (afterHalted s) = .ok) ∧
      setRegNow (afterHalted (atEdge 6 false (prep [true] [] [] [.failed]))) = .failed ∧
      haltedNow (atEdge 6 false (prep [false] [] [] [])) = false ∧ (edgeOf 6 inside).fall = false := by decide

theorem witness_SessionRows :
    (edgeOf 7 (atEdge 7 true Answers.none)).rise = true ∧ (edgeOf 7 inside).rise = false ∧
      (edgeOf 8 (atEdge 8 true Answers.none)).rise = true ∧ (edgeOf 8 inside).rise = false := by decide

theorem witness_StopsByName :
    (let s := atEdge 2 false (prep [true] [.never] [] [])
     s.phase ≠ .done ∧ haltedNow s = true ∧ (edgeOf 2 s).fall = true ∧ s.answers.reads = .never :: []) ∧
      (let s := atEdge 3 false (prep [true] [] [.never] [])
       s.phase ≠ .done ∧ haltedNow s = true ∧ (edgeOf 3 s).fall = true ∧ s.answers.writes = .never :: []) ∧
      (let s := atEdge 6 false (prep [true] [] [] [.never])
       s.phase ≠ .done ∧ haltedNow s = true ∧ (edgeOf 6 s).fall = true ∧ s.answers.setRegs = .never :: []) ∧
      State.reset.phase = .done := by decide

theorem witness_HaltCheckOncePerSession :
    (let s : State := { inside with firstIter := true }
     s.phase ≠ .done ∧ s.firstIter = true ∧ s.ps.swEnableHalt = false) ∧
      ({ inside with firstIter := true, ps.swEnableHalt := true } : State).ps.swEnableHalt = true ∧
      inside.firstIter = false := by decide

/-- A snapshot written during the take, of which the take sees the PC and R7. -/
def landing : MidTake := { newer := snapAt 0o4000 1, mask := ⟨true, false, false, 0x80, 0⟩ }

theorem witness_SnapTakeTakesAndClears :
    (inside.midTake = none ∧ inside.snapReady = false) ∧
      ((ready zeroSnapshot []).midTake = none ∧ (ready zeroSnapshot []).snapReady = true) ∧
      (let s : State := { inside with midTake := some landing }
       s.midTake = some landing ∧ s.snapReady = false) ∧
      let s : State := { ready zeroSnapshot [] with midTake := some landing }
      s.midTake = some landing ∧ s.snapReady = true := by decide

/-- ControlRunsItsParts: a command that faults, a front that ends the session, one that goes on. -/
theorem witness_ControlRunsItsParts :
    (ready zeroSnapshot []).phase ≠ .done ∧ (ready zeroSnapshot []).midTake = none ∧
      exec .exam (atEdge 2 false (prep [true] [.never] [] [])) = .fault .primitiveNeverReturns ∧
      (∃ a, runAll [.start, .reload false] (atEdge 7 true Answers.none) = .next a ∧ a.phase = .done) ∧
      ∃ a, runAll [.start, .reload false] inside = .next a ∧ a.phase = .stopchk :=
  ⟨by decide, rfl, rfl, look_some (·.phase) (by decide), look_some (·.phase) (by decide)⟩

theorem witness_ControlConsumesEveryEdge :
    ∃ t, exec .control { ready zeroSnapshot [true, true] with ps.swEnableHalt := true } = .next t ∧ t.ed[5] = true :=
  look_some (·.ed[5]) (by decide)

theorem witness_IterationCompletes : inside.phase ≠ .done ∧ everyCallReturns inside.answers := by
  unfold everyCallReturns; decide

/-- Both buttons rise, the second alone, a held one. -/
theorem witness_ReloadBeatsRestart :
    (∃ t, exec .control { inside with ps.r1Button := true, ps.r2Button := true } = .next t ∧ t.phase = .done) ∧
      (∃ t, exec .control { inside with ps.r2Button := true } = .next t ∧ t.phase = .done) ∧
      (∃ t, exec .control { ready zeroSnapshot [true] with ps.r1Button := true, ed := inside.ed.set 7 true } = .next t ∧
        t.phase = .stopchk) ∧ inside.ed[7] = false ∧ inside.ed[8] = false ∧ (inside.ed.set 7 true)[7] = true :=
  ⟨look_some (·.phase) (by decide), look_some (·.phase) (by decide), look_some (·.phase) (by decide), rfl, rfl, rfl⟩

/-- A running simulator that halts when asked. -/
def halting : State := { inside with ed := inside.ed.set 5 true, answers := prep [false, true] [] [] [] }

theorem witness_HaltShowsConsoleAddress :
    (∃ t, exec .control halting = .next t ∧ t.trace = [.sim (.halted false), .sim .halt, .sim (.halted true)]) ∧
      halting.trace = [] ∧ halting.ed[5] = true ∧ halting.ps.swEnableHalt = false ∧
      (∀ k : Fin 9, k ≠ 5 → halting.ed[k] = monitored halting.ps k) ∧
      simWB .running none [.halted false, .halt, .halted true] := by
  refine ⟨look_some (·.trace) (by decide), rfl, rfl, rfl, by decide, ?_⟩
  exact ⟨trivial, .running, ⟨.inl rfl, by decide⟩, trivial, .halted, rfl, trivial, .halted, ⟨.inl rfl, by decide⟩, trivial⟩

theorem witness_StopRequestEndsSession :
    inside.phase ≠ .done ∧ ({ inside with keepRunning := false } : State).keepRunning = false ∧
      inside.keepRunning = true := by decide

/-- The session goes on; the session ends at the first button (cell row 1 column 10). -/
theorem witness_IterationRunsItsPhases :
    inside.phase ≠ .done ∧ inside.keepRunning = true ∧
      (∃ a, runAll [.phaseStopchk, .phaseScan, .phaseDecode, .phaseFeed, .phaseControl] inside = .next a ∧
        a.phase = .control) ∧
      (∃ a, runAll [.phaseStopchk, .phaseScan, .phaseDecode, .phaseFeed, .phaseControl]
        { ready zeroSnapshot [] with colIn := ⟨0xFFF, 0xBFF, 0xFFF⟩ } = .next a ∧ a.phase = .done) ∧
      inside.snapReady = false ∧ (ready zeroSnapshot []).snapReady = true ∧ (ready zeroSnapshot []).midTake = none :=
  ⟨by decide, rfl, look_some (·.phase) (by decide), look_some (·.phase) (by decide), rfl, rfl, rfl⟩

theorem witness_IterationWithoutSnapshot :
    inside.phase ≠ .done ∧ inside.keepRunning = true ∧ inside.snapReady = false ∧ inside.ioOkScan = true ∧
      ({ inside with ioOkScan := false } : State).ioOkScan = false := by decide

theorem witness_IterationWithSnapshot :
    (∃ t, exec .iter (ready (snapAt 0o200000 0o40000) [true]) = .next t ∧ t.phase = .drive) ∧
      (ready (snapAt 0o200000 0o40000) [true]).snapReady = true ∧
      (ready (snapAt 0o200000 0o40000) [true]).midTake = none := ⟨look_some (·.phase) (by decide), rfl, rfl⟩

theorem witness_LinesSafeAtEveryMoment :
    (∃ t, exec .iter inside = .next t ∧ t.phase = .drive) ∧ inside.ports = Ports.idle ∧ inside.ioOkScan = true ∧
      inside.ioOkDrive = true := ⟨look_some (·.phase) (by decide), rfl, rfl, rfl⟩

theorem witness_OnlySessionStartLeavesDone :
    State.reset.phase = .done ∧
      ∃ t, step { State.reset with agenda := [.startSession] } = .next t ∧ t.phase = .stopchk :=
  ⟨rfl, look_some (·.phase) (by decide)⟩

theorem witness_WhoWritesWhat :
    ∃ t, exec .exam (atEdge 2 false (prep [true] [.ok 7] [] [])) = .next t ∧ t.dataLatched = 7 :=
  look_some (·.dataLatched) (by decide)

end Sys2Proof.Tests
end

section
/-! Facts about the state that no one definition owns: what the rows of the tables do, what SCAN, DRIVE and P_CONTROL
leave alone, what a step can do. -/

namespace Sys2Proof.Machine

/-! ## What a row of the tables does -/

/-- The effect of an instruction that is no operation of the panel: it writes the iteration's values, or the mode flags
so that at most one is true, or the session result. -/
inductive RowEffect (s : State) : State → Prop where
  | work (w : Work) : RowEffect s { s with work := w }
  | modes (k su u : Bool) (h : atMostOneFlag k su u) : RowEffect s { s with ps := setMode s.ps k su u }
  | result (r : SessionResult) : RowEffect s { s with sessionResult := r }

/-- The instructions whose effect is more than a `RowEffect`: the commands, the phases, and the operations that write a
register or a line. -/
def isOperation (i : Instr) : Bool :=
  match i with
  | .loadAddr | .exam | .dep | .cont _ | .halt | .enable | .start | .reload _ | .restart _ | .test _
  | .phaseStopchk | .phaseScan | .phaseDecode | .phaseFeed | .phaseControl | .phaseEncode | .phaseDrive | .phaseDone
  | .iter | .control | .haltchk _ | .sessionEnd | .edgeSample _ _ | .rotAddDelta _ _ _ | .scan | .drive _
  | .deriveAddr _ _ | .deriveBlink _ | .deriveData _ _ | .deriveRange _ | .deriveParity | .deriveAux _ _
  | .snapTake => true
  | _ => false

/-- The mode flags of a PSW exclude one another (R31, R112, R113). -/
theorem modeFlags_exclusive (nz : Bool) (m : BitVec 2) :
    atMostOneFlag (nz && m == 0#2) (nz && m == 1#2) (nz && m == 3#2) := by
  unfold atMostOneFlag; revert nz m; decide

/-- The address-range flags exclude one another (R31, R262). -/
theorem rangeFlags_exclusive (pc : Nat) :
    atMostOneFlag (decide (pc < 2 ^ 16)) (decide (2 ^ 16 ≤ pc) && decide (pc < 2 ^ 18)) (decide (2 ^ 18 ≤ pc)) := by
  simp only [atMostOneFlag, Bool.and_eq_true, decide_eq_true_eq]; omega

/-- Masking three flags with one bit makes no second flag true. -/
theorem atMostOneFlag_and (nz : Bool) {k su u : Bool} (h : atMostOneFlag k su u) :
    atMostOneFlag (nz && k) (nz && su) (nz && u) := by
  cases nz with
  | false => simp [atMostOneFlag]
  | true => exact h

theorem modeRow_effect (s : State) {k su u : Bool} (h : atMostOneFlag k su u) : RowEffect s (modeRow k su u s) :=
  .modes _ _ _ (atMostOneFlag_and _ h)

/-- A row of the formats SW, LED, QT, KSU, KSU16, RSEL and RESULT, and an operation that only returns a value, has a
`RowEffect` (R92 to R114, R119, R167, R180, R252, R260). -/
theorem exec_row {i : Instr} {s t : State} (hrow : isOperation i = false) (h : exec i s = .next t) :
    RowEffect s t := by
  cases i with
  | ksuMode0 | ksuMode1 | ksuMode2 | ksuMode3 => cases h; exact modeRow_effect s (by unfold atMostOneFlag; decide)
  | ksuPswZero => cases h; exact .modes _ _ _ (by unfold atMostOneFlag; decide)
  | deriveKsu S => cases h; exact .modes _ _ _ (modeFlags_exclusive _ _)
  | resultExit | resultRestart | resultReload => cases h; exact .result _
  | loadAddr | exam | dep | cont | halt | enable | start | reload | restart | test
  | phaseStopchk | phaseScan | phaseDecode | phaseFeed | phaseControl | phaseEncode | phaseDrive | phaseDone
  | iter | control | haltchk | sessionEnd | edgeSample | rotAddDelta | scan | drive
  | deriveAddr | deriveBlink | deriveData | deriveRange | deriveParity | deriveAux | snapTake => cases hrow
  | _ => cases h; exact .work _

theorem RowEffect.phase {s t : State} (h : RowEffect s t) : t.phase = s.phase := by
  cases h <;> rfl

/-! ## What the operations leave alone -/

/-- P_STOPCHK writes the phase, and where a stop was requested the result EXIT (R281). -/
theorem stopPhase_eq (s : State) :
    stopPhase s =
      { s with
        phase := if s.keepRunning then .stopchk else .done
        sessionResult := if s.keepRunning then s.sessionResult else .exit } := by
  unfold stopPhase; cases hk : s.keepRunning <;> simp [endSession]

/-- SCAN writes its loop index, the lines, the iteration's values and the trace (R162, R166). -/
theorem scanMatrix_frame (s : State) :
    scanMatrix s =
      { s with
        scanRow := (scanMatrix s).scanRow, ports := (scanMatrix s).ports, work := (scanMatrix s).work
        trace := (scanMatrix s).trace, free := (scanMatrix s).free } := by
  rw [scanMatrix_eq]; split <;> rfl

/-- DRIVE writes its loop index, the lines, the iteration's values and the trace (R195, R199). -/
theorem driveGrid_frame (grid : LedGrid) (s : State) :
    driveGrid grid s =
      { s with
        ledRow := (driveGrid grid s).ledRow, ports := (driveGrid grid s).ports, work := (driveGrid grid s).work
        trace := (driveGrid grid s).trace, free := (driveGrid grid s).free } := by
  rw [driveGrid_eq]; split <;> rfl

/-- DERIVE.PARITY writes the two parity flags (R264). -/
theorem deriveParityFlags_frame (s : State) :
    deriveParityFlags s =
      { s with
        ps.flagParLow := (deriveParityFlags s).ps.flagParLow
        ps.flagParHigh := (deriveParityFlags s).ps.flagParHigh } := by
  unfold deriveParityFlags; split <;> rfl

/-- P_CONTROL leaves the decoders, the switch register and the lines alone (R21, R39, R49). -/
theorem controlPhase_frame {s t : State} (h : controlPhase s = .next t) :
    t.rot1 = s.rot1 ∧ t.rot2 = s.rot2 ∧ t.ps.switchState = s.ps.switchState ∧ t.ports = s.ports := by
  rcases controlPhase_cases h with ⟨-, rfl⟩ | ⟨-, hbody⟩
  · rw [takeSnapshot_frame, haltCheck_eq]; exact ⟨rfl, rfl, rfl, rfl⟩
  · rw [(controlBody_frame hbody).2, takeSnapshot_frame, haltCheck_eq]; exact ⟨rfl, rfl, rfl, rfl⟩

theorem reloadSession_phase (s : State) : (reloadSession s).phase = s.phase ∨ (reloadSession s).phase = .done := by
  unfold reloadSession; split
  · exact .inr rfl
  · exact .inl rfl

theorem restartSession_phase (s : State) : (restartSession s).phase = s.phase ∨ (restartSession s).phase = .done := by
  unfold restartSession; split
  · exact .inr rfl
  · exact .inl rfl

/-! ## What a step can do -/

/-- Everything a step that answers a next state can be: the row of a code word, a word that is no command, a session
start, an iteration with prepared or with free inputs, or nothing (R280, R342; log 1, log 2, log 25). -/
theorem step_cases {s t : State} (h : step s = .next t) :
    (∃ n w rest i, s.agenda = .word n w :: rest ∧ decodeWord n w = .ok i ∧
      exec i { s with agenda := rest } = .next t) ∨
    (∃ n w rest, s.agenda = .word n w :: rest ∧ t = { s with agenda := rest }) ∨
    (∃ rest, s.agenda = .startSession :: rest ∧ t = startSession { s with agenda := rest }) ∨
    (∃ x a rest, s.agenda = .iteration x a :: rest ∧
      exec .iter (arrive x a { s with agenda := rest }) = .next t) ∨
    (s.agenda = [] ∧ t = s) ∨
    (s.agenda = [] ∧ s.phase ≠ .done ∧
      exec .iter (arrive (freeInputs s.free) Answers.none { s with free := s.free + 1 }) = .next t) := by
  unfold step at h
  split at h
  case h_1 n w rest hag =>
    split at h
    case h_1 i hdec => exact .inl ⟨n, w, rest, i, hag, hdec, h⟩
    case h_2 => cases h; exact .inr (.inl ⟨n, w, rest, hag, rfl⟩)
    case h_3 => cases h
  case h_2 rest hag =>
    split at h
    · cases h; exact .inr (.inr (.inl ⟨rest, hag, rfl⟩))
    · cases h
  case h_3 x a rest hag => exact .inr (.inr (.inr (.inl ⟨x, a, rest, hag, h⟩)))
  case h_4 hag =>
    split at h
    · cases h; exact .inr (.inr (.inr (.inr (.inl ⟨hag, rfl⟩))))
    · exact .inr (.inr (.inr (.inr (.inr ⟨hag, by assumption, h⟩))))

/-! ## P_DONE -/

/-- No instruction leaves P_DONE: what needs a session is refused there, the rest keeps the phase or ends the session
once more (R287; log 18). -/
theorem exec_stays_done {i : Instr} {s t : State} (h : exec i s = .next t) (hd : s.phase = .done) :
    t.phase = .done := by
  have refusedInSession {o : Result} (h : inSession s o = .next t) : t.phase = .done :=
    absurd hd ((inSession_eq_next s t o).1 h).1
  have refusedInIteration {o : Result} (h : inIteration s o = .next t) : t.phase = .done :=
    absurd hd ((inIteration_eq_next s t o).1 h).1
  cases i with
  | loadAddr | exam | dep | cont | halt | enable | start | control | haltchk => exact refusedInSession h
  | iter | phaseStopchk | phaseScan | phaseDecode | phaseFeed | phaseControl | phaseEncode | phaseDrive =>
    exact refusedInIteration h
  | reload => cases h; exact (reloadSession_phase s).elim (·.trans hd) id
  | restart => cases h; exact (restartSession_phase s).elim (·.trans hd) id
  | test => cases h; exact (testDump_plain s).phase.trans hd
  | phaseDone | sessionEnd => cases h; rfl
  | edgeSample | deriveBlink | deriveRange | deriveAux => cases h; exact hd
  | rotAddDelta n => cases h; cases n <;> exact hd
  | scan => cases h; rw [scanMatrix_frame]; exact hd
  | drive => cases h; rw [driveGrid_frame]; exact hd
  | deriveAddr => cases h; rw [deriveAddress_eq]; exact hd
  | deriveData => cases h; rw [deriveDisplayedData_eq]; exact hd
  | deriveParity => cases h; rw [deriveParityFlags_frame]; exact hd
  | snapTake => cases h; rw [takeSnapshot_frame]; exact hd
  | _ => exact (exec_row rfl h).phase.trans hd

/-- Settles O58, by the cases of a step: all but the session start stay in P_DONE. -/
theorem onlySessionStartLeavesDone : Obligations.OnlySessionStartLeavesDone := by
  unfold Obligations.OnlySessionStartLeavesDone
  intro s t hd hstep hleft
  rcases step_cases hstep with ⟨n, w, rest, i, -, -, hexec⟩ | ⟨n, w, rest, -, rfl⟩ | ⟨rest, hag, -⟩ |
    ⟨x, a, rest, -, hexec⟩ | ⟨-, rfl⟩ | ⟨-, hp, -⟩
  · exact absurd (exec_stays_done hexec hd) hleft
  · exact absurd hd hleft
  · exact ⟨rest, hag⟩
  · exact absurd (exec_stays_done hexec hd) hleft
  · exact absurd hd hleft
  · exact absurd hd hp

/-! ## Who writes which register -/

/-- The registers `WhoWritesWhat` speaks of. -/
inductive Register where
  | consoleAddress
  | dataLatched
  | useDataLatched
  | detectors
  | decoders
  | address
  | data
  | switchState
  | blinkActive
  | actBuf
  | ports

/-- The register is the same in `t` as in `s`. -/
def Register.kept (r : Register) (s t : State) : Prop :=
  match r with
  | .consoleAddress => t.consoleAddress = s.consoleAddress
  | .dataLatched => t.dataLatched = s.dataLatched
  | .useDataLatched => t.useDataLatched = s.useDataLatched
  | .detectors => t.ed = s.ed
  | .decoders => t.rot1 = s.rot1 ∧ t.rot2 = s.rot2
  | .address => t.ps.address = s.ps.address
  | .data => t.ps.data = s.ps.data
  | .switchState => t.ps.switchState = s.ps.switchState
  | .blinkActive => t.blinkActive = s.blinkActive
  | .actBuf => t.actBuf = s.actBuf
  | .ports => t.ports = s.ports

/-- The instructions the spec lets write the register (R21 to R49, R240). -/
def Register.writer (r : Register) (i : Instr) : Prop :=
  match r with
  | .consoleAddress => i ∈ [Instr.loadAddr, .exam, .dep, .control, .phaseControl, .iter]
  | .dataLatched => i ∈ [Instr.exam, .dep, .control, .phaseControl, .iter]
  | .useDataLatched => i ∈ [Instr.loadAddr, .exam, .dep, .enable, .start, .control, .phaseControl, .iter]
  | .detectors => (∃ k c, i = .edgeSample k c) ∨ i ∈ [Instr.control, .phaseControl, .iter]
  | .decoders => (∃ n a b, i = .rotAddDelta n a b) ∨ i ∈ [Instr.phaseFeed, .iter]
  | .address => (∃ S h, i = .deriveAddr S h) ∨ i ∈ [Instr.control, .phaseControl, .iter]
  | .data => (∃ S h, i = .deriveData S h) ∨ i ∈ [Instr.control, .phaseControl, .iter]
  | .switchState => i ∈ [Instr.phaseDecode, .iter]
  | .blinkActive => (∃ h, i = .deriveBlink h) ∨ i ∈ [Instr.control, .phaseControl, .iter]
  | .actBuf => i ∈ [Instr.snapTake, .control, .phaseControl, .iter]
  | .ports => (∃ g, i = .drive g) ∨ i ∈ [Instr.scan, .phaseScan, .phaseDrive, .iter]

/-- The console latches, the registers a console command can write. -/
def Register.isLatch (r : Register) : Bool :=
  match r with
  | .consoleAddress | .dataLatched | .useDataLatched => true
  | _ => false

theorem Register.kept_of_row {s t : State} (h : RowEffect s t) (r : Register) : r.kept s t := by
  cases h <;> cases r <;> simp [Register.kept, setMode]

/-- A console command writes no register but the console latches (R210 to R242). -/
theorem Register.kept_of_command {s t : State} (h : sameButCommands s t) {r : Register} (hr : r.isLatch = false) :
    r.kept s t := by
  cases r with
  | consoleAddress | dataLatched | useDataLatched => cases hr
  | _ => rw [h]; simp [Register.kept]

/-- Where the latches are the same too, a console command keeps every register. -/
theorem Register.kept_of_quiet_command {s t : State} (h : sameButCommands s t)
    (hc : t.consoleAddress = s.consoleAddress) (hd : t.dataLatched = s.dataLatched)
    (hu : t.useDataLatched = s.useDataLatched) (r : Register) : r.kept s t := by
  cases r with
  | consoleAddress => exact hc
  | dataLatched => exact hd
  | useDataLatched => exact hu
  | _ => exact kept_of_command h rfl

/-- What keeps every register but `q` fits an instruction that may write `q`. -/
theorem Register.kept_or_writer {r q : Register} {s t : State} {i : Instr} (hk : r ≠ q → r.kept s t)
    (hq : q.writer i) : r.kept s t ∨ r.writer i := by
  by_cases hr : r = q
  · exact .inr (hr ▸ hq)
  · exact .inl (hk hr)

theorem Register.writer_iter (r : Register) : r.writer .iter := by
  cases r <;> simp [Register.writer]

/-! ### The latches each command keeps -/

theorem loadAddress_dataLatched (s : State) : (loadAddress s).dataLatched = s.dataLatched := by
  unfold loadAddress; split_ifs <;> simp

theorem continueStep_kept (s : State) (r : Register) : r.kept s (continueStep s) :=
  r.kept_of_quiet_command (continueStep_frame s) (by unfold continueStep; split <;> simp)
    (by unfold continueStep; split <;> simp) (by unfold continueStep; split <;> simp)

theorem haltCpu_kept (s : State) (r : Register) : r.kept s (haltCpu s) :=
  r.kept_of_quiet_command (haltCpu_frame s) (by unfold haltCpu; split_ifs <;> simp)
    (by unfold haltCpu; split_ifs <;> simp) (by unfold haltCpu; split_ifs <;> simp)

theorem enableCpu_latches (s : State) :
    (enableCpu s).consoleAddress = s.consoleAddress ∧ (enableCpu s).dataLatched = s.dataLatched := by
  unfold enableCpu; split_ifs <;> simp

theorem setRegAnswered_latches (s : State) :
    (setRegAnswered s).consoleAddress = s.consoleAddress ∧ (setRegAnswered s).dataLatched = s.dataLatched := by
  unfold setRegAnswered; split <;> simp

theorem startCpu_latches {s t : State} (h : startCpu s = .next t) :
    t.consoleAddress = s.consoleAddress ∧ t.dataLatched = s.dataLatched := by
  unfold startCpu at h
  dsimp only at h
  split_ifs at h
  · cases h; simp [setRegAnswered_latches]
  · cases h; simp
  · cases h; simp

theorem reloadSession_kept (s : State) (r : Register) : r.kept s (reloadSession s) := by
  unfold reloadSession; split <;> cases r <;> simp [Register.kept]

theorem restartSession_kept (s : State) (r : Register) : r.kept s (restartSession s) := by
  unfold restartSession; split <;> cases r <;> simp [Register.kept]

theorem testDump_kept (s : State) (r : Register) : r.kept s (testDump s) := by
  unfold testDump; split <;> cases r <;> simp [Register.kept]

/-! ### The one register each operation writes -/

theorem stopPhase_kept (s : State) (r : Register) : r.kept s (stopPhase s) := by
  rw [stopPhase_eq]; cases r <;> simp [Register.kept]

theorem scanMatrix_kept (s : State) {r : Register} (hr : r ≠ .ports) : r.kept s (scanMatrix s) := by
  cases r with
  | ports => exact absurd rfl hr
  | _ => rw [scanMatrix_frame]; simp [Register.kept]

theorem driveGrid_kept (grid : LedGrid) (s : State) {r : Register} (hr : r ≠ .ports) :
    r.kept s (driveGrid grid s) := by
  cases r with
  | ports => exact absurd rfl hr
  | _ => rw [driveGrid_frame]; simp [Register.kept]

theorem decodePhase_kept (s : State) {r : Register} (hr : r ≠ .switchState) : r.kept s (decodePhase s) := by
  cases r with
  | switchState => exact absurd rfl hr
  | _ => simp [Register.kept, decodePhase, updatePanel, decodeMatrix]

theorem addDelta_kept (n : RotaryId) (a b : Bool) (s : State) {r : Register} (hr : r ≠ .decoders) :
    r.kept s (addDelta n a b s) := by
  cases r with
  | decoders => exact absurd rfl hr
  | _ => cases n <;> simp [Register.kept, addDelta]

theorem feedPhase_kept (s : State) {r : Register} (hr : r ≠ .decoders) : r.kept s (feedPhase s) := by
  cases r with
  | decoders => exact absurd rfl hr
  | _ => simp [Register.kept, feedPhase, copyPositions, addDelta]

theorem sampleEdge_kept (k : Fin 9) (c : Bool) (s : State) {r : Register} (hr : r ≠ .detectors) :
    r.kept s (sampleEdge k c s) := by
  cases r with
  | detectors => exact absurd rfl hr
  | _ => simp [Register.kept]

theorem takeSnapshot_kept (s : State) {r : Register} (hr : r ≠ .actBuf) : r.kept s (takeSnapshot s) := by
  cases r with
  | actBuf => exact absurd rfl hr
  | _ => rw [takeSnapshot_frame]; simp [Register.kept]

theorem deriveAddress_kept (S : Snapshot) (h : Bool) (s : State) {r : Register} (hr : r ≠ .address) :
    r.kept s (deriveAddress S h s) := by
  cases r with
  | address => exact absurd rfl hr
  | _ => rw [deriveAddress_eq]; simp [Register.kept]

theorem deriveBlinking_kept (h : Bool) (s : State) {r : Register} (hr : r ≠ .blinkActive) :
    r.kept s (deriveBlinking h s) := by
  cases r with
  | blinkActive => exact absurd rfl hr
  | _ => simp [Register.kept, deriveBlinking]

theorem deriveDisplayedData_kept (S : Snapshot) (h : Bool) (s : State) {r : Register} (hr : r ≠ .data) :
    r.kept s (deriveDisplayedData S h s) := by
  cases r with
  | data => exact absurd rfl hr
  | _ => rw [deriveDisplayedData_eq]; simp [Register.kept]

/-! ### The instructions -/

/-- Every instruction keeps every register it is no writer of. -/
theorem exec_kept_or_writer {i : Instr} {s t : State} (h : exec i s = .next t) (r : Register) :
    r.kept s t ∨ r.writer i := by
  have ran {o : Result} (h : inSession s o = .next t) : o = .next t := ((inSession_eq_next s t o).1 h).2
  have ranPhase {o : Result} (h : inIteration s o = .next t) : o = .next t := ((inIteration_eq_next s t o).1 h).2
  cases i with
  | loadAddr =>
    cases ran h
    cases r with
    | consoleAddress | useDataLatched => right; simp [Register.writer]
    | dataLatched => exact .inl (loadAddress_dataLatched s)
    | _ => exact .inl (Register.kept_of_command (loadAddress_frame s) rfl)
  | exam =>
    cases r with
    | consoleAddress | dataLatched | useDataLatched => right; simp [Register.writer]
    | _ => exact .inl (Register.kept_of_command (examineWord_frame (ran h)) rfl)
  | dep =>
    cases r with
    | consoleAddress | dataLatched | useDataLatched => right; simp [Register.writer]
    | _ => exact .inl (Register.kept_of_command (depositWord_frame (ran h)) rfl)
  | cont => cases ran h; exact .inl (continueStep_kept s r)
  | halt => cases ran h; exact .inl (haltCpu_kept s r)
  | enable =>
    cases ran h
    cases r with
    | consoleAddress => exact .inl (enableCpu_latches s).1
    | dataLatched => exact .inl (enableCpu_latches s).2
    | useDataLatched => right; simp [Register.writer]
    | _ => exact .inl (Register.kept_of_command (enableCpu_frame s) rfl)
  | start =>
    cases r with
    | consoleAddress => exact .inl (startCpu_latches (ran h)).1
    | dataLatched => exact .inl (startCpu_latches (ran h)).2
    | useDataLatched => right; simp [Register.writer]
    | _ => exact .inl (Register.kept_of_command (startCpu_frame (ran h)) rfl)
  | reload => cases h; exact .inl (reloadSession_kept s r)
  | restart => cases h; exact .inl (restartSession_kept s r)
  | test => cases h; exact .inl (testDump_kept s r)
  | phaseStopchk => cases ranPhase h; exact .inl (stopPhase_kept s r)
  | phaseScan =>
    cases ranPhase h
    exact Register.kept_or_writer (scanMatrix_kept { s with phase := .scan }) (by simp [Register.writer])
  | phaseDecode => cases ranPhase h; exact Register.kept_or_writer (decodePhase_kept s) (by simp [Register.writer])
  | phaseFeed => cases ranPhase h; exact Register.kept_or_writer (feedPhase_kept s) (by simp [Register.writer])
  | phaseControl =>
    obtain ⟨hrot1, hrot2, hsr, hports⟩ := controlPhase_frame (ranPhase h)
    cases r with
    | decoders => exact .inl ⟨hrot1, hrot2⟩
    | switchState => exact .inl hsr
    | ports => exact .inl hports
    | _ => right; simp [Register.writer]
  | phaseEncode => cases ranPhase h; left; cases r <;> simp [Register.kept, encodePhase, encodePanel]
  | phaseDrive =>
    cases ranPhase h
    exact Register.kept_or_writer (driveGrid_kept s.work.grid { s with phase := .drive }) (by simp [Register.writer])
  | phaseDone | sessionEnd => cases h; left; cases r <;> simp [Register.kept]
  | iter => exact .inr r.writer_iter
  | control =>
    have hf := (controlBody_frame (ran h)).2
    cases r with
    | decoders | switchState | ports => left; rw [hf]; simp [Register.kept]
    | _ => right; simp [Register.writer]
  | haltchk => cases ran h; left; rw [haltCheck_eq]; cases r <;> simp [Register.kept]
  | edgeSample => cases h; exact Register.kept_or_writer (sampleEdge_kept _ _ s) (by simp [Register.writer])
  | rotAddDelta => cases h; exact Register.kept_or_writer (addDelta_kept _ _ _ s) (by simp [Register.writer])
  | scan => cases h; exact Register.kept_or_writer (scanMatrix_kept s) (by simp [Register.writer])
  | drive => cases h; exact Register.kept_or_writer (driveGrid_kept _ s) (by simp [Register.writer])
  | deriveAddr => cases h; exact Register.kept_or_writer (deriveAddress_kept _ _ s) (by simp [Register.writer])
  | deriveBlink => cases h; exact Register.kept_or_writer (deriveBlinking_kept _ s) (by simp [Register.writer])
  | deriveData => cases h; exact Register.kept_or_writer (deriveDisplayedData_kept _ _ s) (by simp [Register.writer])
  | deriveRange => cases h; left; cases r <;> simp [Register.kept, deriveAddressRange, rangeFlags]
  | deriveParity => cases h; left; rw [deriveParityFlags_frame]; cases r <;> simp [Register.kept]
  | deriveAux => cases h; left; cases r <;> simp [Register.kept, deriveAuxFlags]
  | snapTake => cases h; exact Register.kept_or_writer (takeSnapshot_kept s) (by simp [Register.writer])
  | _ => exact .inl (Register.kept_of_row (exec_row rfl h) r)

/-- Settles O59, register by register. -/
theorem whoWritesWhat : Obligations.WhoWritesWhat := by
  unfold Obligations.WhoWritesWhat
  intro i s t h
  have writes := exec_kept_or_writer h
  exact ⟨writes .consoleAddress, writes .dataLatched, writes .useDataLatched, writes .detectors, writes .decoders,
    writes .address, writes .data, writes .switchState, writes .blinkActive, writes .actBuf, writes .ports⟩

end Sys2Proof.Machine
end

section
/-! The invariant: what keeps it, from the single operation up to the step. -/

namespace Sys2Proof.Machine

/-! ## What the invariant speaks of -/

/-- All that `Inv` reads of a state, the trace apart. -/
def invView (s : State) :=
  ((s.ps.flagKernel, s.ps.flagSuper, s.ps.flagUser), (s.ps.flagAddr16, s.ps.flagAddr18, s.ps.flagAddr22),
    (s.rot1, s.rot2, s.ps.r1Position, s.ps.r2Position), (s.actBuf, s.snap, s.midTake, s.agenda), s.ports)

/-- A state that looks the same to `Inv` and whose trace hides no earlier failure keeps it. -/
theorem Inv.of_view {s t : State} (hi : Inv s) (hv : invView t = invView s)
    (io : noIoFailure t.trace → noIoFailure s.trace) : Inv t := by
  simp only [invView, Prod.mk.injEq] at hv
  obtain ⟨⟨hk, hsu, hu⟩, ⟨h16, h18, h22⟩, ⟨hr1, hr2, hp1, hp2⟩, ⟨hact, hsnap, hmid, hag⟩, hpo⟩ := hv
  exact hi.of_eq hk hsu hu h16 h18 h22 hr1 hr2 hp1 hp2 hact hsnap hmid hag io hpo

/-- Events added to the trace hide no failure. -/
theorem noIoFailure_of_addsQuietly {s t : State} (h : addsQuietly s t) (ht : noIoFailure t.trace) :
    noIoFailure s.trace := by
  obtain ⟨es, hes, -⟩ := h
  exact noIoFailure_of_append (hes ▸ ht)

theorem not_noIoFailure_append (es rest : List Event) (left : Ports) :
    ¬ noIoFailure (es ++ .linesUnknown left :: rest) := fun hno => hno left (by simp)

/-! ## Rows, commands, sessions -/

theorem RowEffect.inv {s t : State} (h : RowEffect s t) (hi : Inv s) : Inv t := by
  cases h with
  | work w => exact hi.of_view rfl id
  | modes k su u h => exact { hi with modes := h }
  | result r => exact hi.of_view rfl id

/-- What the console commands write is nothing the invariant speaks of (R210 to R242). -/
theorem Inv.of_command {s t : State} (hi : Inv s) (hf : sameButCommands s t) (hq : addsQuietly s t) : Inv t :=
  hi.of_view (by rw [hf]; rfl) (noIoFailure_of_addsQuietly hq)

theorem PlainCommand.inv {s t : State} (h : PlainCommand s t) (hi : Inv s) : Inv t :=
  hi.of_command h.frame h.quietly

theorem runCommands_inv {s t : State} (h : runCommands s = .next t) (hi : Inv s) : Inv t :=
  hi.of_command (runCommands_frame h) (runCommands_addsQuietly h)

theorem reloadSession_inv {s : State} (hi : Inv s) : Inv (reloadSession s) := by
  unfold reloadSession; split
  · exact hi.of_view rfl id
  · exact hi

theorem restartSession_inv {s : State} (hi : Inv s) : Inv (restartSession s) := by
  unfold restartSession; split
  · exact hi.of_view rfl id
  · exact hi

/-- A session start clears the flags and the counts and keeps the decoders with their copies (R342, R343). -/
theorem startSession_inv {s : State} (hi : Inv s) : Inv (startSession s) :=
  { hi with
    modes := by simp [startSession, PanelState.zero, atMostOneFlag]
    ranges := by simp [startSession, PanelState.zero, atMostOneFlag]
    shown := fun i => by simp [startSession] }

/-! ## The decoders -/

theorem quadDelta_bounds (pp nn : BitVec 2) : -1 ≤ quadDelta pp nn ∧ quadDelta pp nn ≤ 1 := by
  revert pp nn; decide

/-- An accumulator that reaches 4 or -4 is set back to 0, so it stays within -3..3, and the position is reduced by the
modulus (R37, R38, R143 to R145). -/
theorem rotaryStep_inv {m : Nat} (hm : 0 < m) {rot : Rotary} (h : rotaryInv m rot) (q : BitVec 2) :
    rotaryInv m (rotaryStep m rot q) := by
  obtain ⟨hlow, hhigh, hpos⟩ := h
  have hd := quadDelta_bounds rot.lastState q
  rw [rotaryStep_eq]
  split_ifs with hup hdown <;> simp only [rotaryInv]
  · exact ⟨by omega, by omega, Nat.mod_lt _ hm⟩
  · exact ⟨by omega, by omega, Nat.mod_lt _ hm⟩
  · exact ⟨by omega, by omega, hpos⟩

/-- P_FEED feeds both decoders and copies both positions (R147, R148). -/
theorem feedPhase_inv {s : State} (hi : Inv s) : Inv (feedPhase s) :=
  { hi with
    decoder1 := rotaryStep_inv (by decide) hi.decoder1 _
    decoder2 := rotaryStep_inv (by decide) hi.decoder2 _
    position1 := rfl
    position2 := rfl }

/-! ## SCAN, DRIVE and the lines -/

/-- SCAN leaves idle lines idle, or records that their levels are unknown (R164, R166). -/
theorem scanMatrix_inv {s : State} (hi : Inv s) : Inv (scanMatrix s) := by
  rw [scanMatrix_eq]; split
  · exact { hi with lines := fun h => by rw [hi.lines (noIoFailure_of_append h)]; simp [Ports.idle] }
  · exact { hi with lines := fun h => absurd h (not_noIoFailure_append _ _ _) }

/-- DRIVE leaves idle lines idle, or records that their levels are unknown (R197, R199). -/
theorem driveGrid_inv {s : State} (grid : LedGrid) (hi : Inv s) : Inv (driveGrid grid s) := by
  rw [driveGrid_eq]; split
  · exact { hi with lines := fun h => by rw [hi.lines (noIoFailure_of_append h)]; simp [Ports.idle] }
  · exact { hi with lines := fun h => absurd h (not_noIoFailure_append _ _ _) }

/-! ## The activity counts -/

/-- A take mixes two snapshots count by count, so its counts are in depth where both snapshots' are (R72, R73). -/
theorem takenValues_inDepth {mailbox : Snapshot} {mid : Option MidTake} (hm : Activity.InDepth mailbox.act)
    (hmid : midTakeInv mid) : Activity.InDepth (takenValues mailbox mid).act := by
  intro i
  cases mid with
  | none => exact hm i
  | some m =>
    simp only [takenValues, Fin.getElem_fin, Vector.getElem_ofFn]
    split
    · exact hmid m rfl i
    · exact hm i

theorem readMailbox_inv {s : State} (hi : Inv s) : Inv (readMailbox s) :=
  { hi with shown := takenValues_inDepth hi.mailbox hi.landing }

theorem landMidTake_inv {s : State} (hi : Inv s) : Inv (landMidTake s) := by
  unfold landMidTake; split
  case h_1 => exact hi
  case h_2 m hm => exact { hi with mailbox := hi.landing m hm, landing := fun x hx => by cases hx }

theorem takeSnapshot_inv {s : State} (hi : Inv s) : Inv (takeSnapshot s) := by
  have hcleared : Inv { s with snapReady := false, work.taken := s.snapReady } := hi.of_view rfl id
  unfold takeSnapshot; dsimp only; split
  · exact landMidTake_inv (readMailbox_inv hcleared)
  · exact landMidTake_inv hcleared

/-- The free inputs are within the bounds of R73. -/
theorem boundSnapshot_inDepth (S : Snapshot) : Activity.InDepth (boundSnapshot S).act := by
  intro i
  simp only [boundSnapshot, Fin.getElem_fin, Vector.getElem_map]
  exact Nat.le_of_lt_succ (Nat.mod_lt _ (Nat.succ_pos _))

theorem freeInputs_inv (n : Nat) (a : Answers) : inputInv (.iteration (freeInputs n) a) := by
  constructor
  · intro S hS
    obtain ⟨S', -, rfl⟩ := Option.map_eq_some_iff.1 hS
    exact boundSnapshot_inDepth S'
  · intro m hm
    obtain ⟨m', -, rfl⟩ := Option.map_eq_some_iff.1 hm
    exact boundSnapshot_inDepth m'.newer

/-- Inputs in depth arrive in the mailbox and in what lands during the take (R70, R73). -/
theorem arrive_inv {s : State} {x : Stimulus} {a : Answers} (hi : Inv s) (hx : inputInv (.iteration x a)) :
    Inv (arrive x a s) := by
  obtain ⟨hdeliver, hmid⟩ := hx
  refine { hi with landing := hmid, mailbox := ?_ }
  cases hd : x.deliver with
  | none => simpa [arrive, hd] using hi.mailbox
  | some S => simpa [arrive, hd] using hdeliver S hd

/-! ## The phases and ITER -/

theorem stopPhase_inv {s : State} (hi : Inv s) : Inv (stopPhase s) := by
  rw [stopPhase_eq]; exact hi.of_view rfl id

theorem haltCheck_inv {s : State} (b : Bool) (hi : Inv s) : Inv (haltCheck b s) := by
  rw [haltCheck_eq]; exact hi.of_view rfl noIoFailure_of_append

theorem deriveAll_inv {s : State} (S : Snapshot) (h : Bool) (hi : Inv s) : Inv (deriveAll S h s) := by
  rw [deriveAll_eq]
  exact { hi with modes := modeFlags_exclusive _ _, ranges := rangeFlags_exclusive _ }

theorem controlBody_inv {s t : State} (h : controlBody s = .next t) (hi : Inv s) : Inv t := by
  obtain ⟨c, hc, hend⟩ := controlBody_cases h
  have hsampled : Inv (sampleAllEdges s) := by rw [sampleAllEdges_eq]; exact hi.of_view rfl id
  have hran : Inv c := runCommands_inv hc hsampled
  rcases hend with ⟨-, rfl⟩ | ⟨-, rfl⟩
  · exact hran
  · exact deriveAll_inv _ _ ((afterHalted_plain c).inv hran)

theorem scanPhase_inv {s : State} (hi : Inv s) : Inv (scanPhase s) :=
  scanMatrix_inv (hi.of_view rfl id)

theorem decodePhase_inv {s : State} (hi : Inv s) : Inv (decodePhase s) :=
  hi.of_view rfl id

theorem samplePanel_inv {s : State} (hi : Inv s) : Inv (samplePanel s) := by
  unfold samplePanel; dsimp only; split
  · exact feedPhase_inv (decodePhase_inv (scanPhase_inv hi))
  · exact scanPhase_inv hi

theorem controlPhase_inv {s t : State} (h : controlPhase s = .next t) (hi : Inv s) : Inv t := by
  have htaken : Inv (takeSnapshot (haltCheck s.work.scanOk { s with phase := .control })) :=
    takeSnapshot_inv (haltCheck_inv _ (hi.of_view rfl id))
  rcases controlPhase_cases h with ⟨-, rfl⟩ | ⟨-, hbody⟩
  · exact htaken.of_view rfl noIoFailure_of_append
  · exact controlBody_inv hbody htaken

theorem encodePhase_inv {s : State} (hi : Inv s) : Inv (encodePhase s) :=
  hi.of_view rfl id

theorem drivePhase_inv {s : State} (hi : Inv s) : Inv (drivePhase s) :=
  driveGrid_inv _ (hi.of_view rfl id)

theorem endIteration_inv {s : State} (hi : Inv s) : Inv (endIteration s) :=
  hi.of_view rfl id

theorem iteration_inv {s t : State} (h : iteration s = .next t) (hi : Inv s) : Inv t := by
  rcases iteration_cases h with ⟨-, rfl⟩ | ⟨-, c, hc, hend⟩
  · exact hi.of_view rfl id
  · have hcontrol : Inv c := controlPhase_inv hc (samplePanel_inv (hi.of_view rfl id))
    rcases hend with ⟨-, rfl⟩ | ⟨-, rfl⟩
    · exact endIteration_inv hcontrol
    · exact endIteration_inv (drivePhase_inv (encodePhase_inv hcontrol))

/-! ## Every instruction but ROT.ADD_DELTA -/

/-- Every instruction keeps the invariant but ROT.ADD_DELTA run alone, after which PanelState's copy of the position is
an old one until P_FEED copies it (R148; log 26). -/
theorem exec_inv {i : Instr} {s t : State} (hfeed : ∀ n a b, i ≠ .rotAddDelta n a b) (h : exec i s = .next t)
    (hi : Inv s) : Inv t := by
  have ran {o : Result} (h : inSession s o = .next t) : o = .next t := ((inSession_eq_next s t o).1 h).2
  have ranPhase {o : Result} (h : inIteration s o = .next t) : o = .next t := ((inIteration_eq_next s t o).1 h).2
  cases i with
  | loadAddr => cases ran h; exact (loadAddress_plain s).inv hi
  | exam => exact (examineWord_plain (ran h)).inv hi
  | dep => exact (depositWord_plain (ran h)).inv hi
  | cont => cases ran h; exact (continueStep_plain s).inv hi
  | halt => cases ran h; exact (haltCpu_plain s).inv hi
  | enable => cases ran h; exact (enableCpu_plain s).inv hi
  | start => exact (startCpu_plain (ran h)).inv hi
  | reload => cases h; exact reloadSession_inv hi
  | restart => cases h; exact restartSession_inv hi
  | test => cases h; exact (testDump_plain s).inv hi
  | phaseStopchk => cases ranPhase h; exact stopPhase_inv hi
  | phaseScan => cases ranPhase h; exact scanPhase_inv hi
  | phaseDecode => cases ranPhase h; exact decodePhase_inv hi
  | phaseFeed => cases ranPhase h; exact feedPhase_inv hi
  | phaseControl => exact controlPhase_inv (ranPhase h) hi
  | phaseEncode => cases ranPhase h; exact encodePhase_inv hi
  | phaseDrive => cases ranPhase h; exact drivePhase_inv hi
  | phaseDone | sessionEnd => cases h; exact hi.of_view rfl id
  | iter => exact iteration_inv (ranPhase h) hi
  | control => exact controlBody_inv (ran h) (landMidTake_inv (readMailbox_inv hi))
  | haltchk => cases ran h; exact haltCheck_inv _ hi
  | edgeSample | deriveBlink | deriveAux => cases h; exact hi.of_view rfl id
  | rotAddDelta n a b => exact absurd rfl (hfeed n a b)
  | scan => cases h; exact scanMatrix_inv hi
  | drive => cases h; exact driveGrid_inv _ hi
  | deriveAddr => cases h; rw [deriveAddress_eq]; exact hi.of_view rfl id
  | deriveData => cases h; rw [deriveDisplayedData_eq]; exact hi.of_view rfl id
  | deriveRange => cases h; exact { hi with ranges := rangeFlags_exclusive _ }
  | deriveParity => cases h; rw [deriveParityFlags_frame]; exact hi.of_view rfl id
  | snapTake => cases h; exact takeSnapshot_inv hi
  | _ => exact (exec_row rfl h).inv hi

/-! ## The instructions that have a code word -/

theorem lookupRow_mem {table : List (Nat × Instr)} {e : DecodeError} {w : Nat} {i : Instr}
    (h : lookupRow table e w = .ok i) : ∃ v, (v, i) ∈ table := by
  unfold lookupRow at h
  split at h
  case h_1 j hj =>
    cases h
    obtain ⟨l₁, l₂, rfl, -⟩ := List.lookup_eq_some_iff.1 hj
    exact ⟨w, by simp⟩
  case h_2 => cases h

/-- No table has a row for an operation of format OP (R125). -/
theorem table_encodes {table : List (Nat × Instr)}
    (ht : table ∈ [swTable, ledTable, qtTable, ksuTable, rselTable, phaseTable, resultTable]) {v : Nat} {i : Instr}
    (h : (v, i) ∈ table) : (encode i).isSome = true := by
  have all : ([swTable, ledTable, qtTable, ksuTable, rselTable, phaseTable, resultTable].all fun table =>
      table.all fun row => (encode row.2).isSome) = true := by decide
  exact List.all_eq_true.1 (List.all_eq_true.1 all table ht) (v, i) h

theorem decodeEvent_encodes {w : Nat} {i : Instr} (h : decodeEvent w = .ok i) : (encode i).isSome = true := by
  unfold decodeEvent at h
  dsimp only at h
  repeat' split at h
  all_goals cases h <;> rfl

/-- What the decoder gives for a word is an instruction that has a code word. -/
theorem decode_encodes {f : Format} {w : Nat} {i : Instr} (h : decode f w = .ok i) : (encode i).isSome = true := by
  unfold decode at h
  split at h
  · cases h
  · cases f with
    | ev => exact decodeEvent_encodes h
    | ksu16 => dsimp only at h; split_ifs at h; cases h; rfl
    | _ =>
      obtain ⟨v, hv⟩ := lookupRow_mem h
      exact table_encodes (by simp) hv

theorem firstRow_encodes {fs : List Format} {e : DecodeError} {w : Nat} {i : Instr} (h : firstRow fs e w = .ok i) :
    (encode i).isSome = true := by
  induction fs with
  | nil => cases h
  | cons f rest ih =>
    unfold firstRow at h
    split at h
    case h_1 j hj => cases h; exact decode_encodes hj
    case h_2 => exact ih h

/-- ROT.ADD_DELTA has no code word (R125). -/
theorem decodeWord_ne_rotAddDelta {n w : Nat} {i : Instr} (h : decodeWord n w = .ok i) (r : RotaryId) (a b : Bool) :
    i ≠ .rotAddDelta r a b := by
  rintro rfl
  cases firstRow_encodes h

/-! ## Reset and step -/

/-- Taking the head off the agenda leaves entries in depth. -/
theorem Inv.agenda_tail {s : State} {x : Input} {rest : List Input} (hi : Inv s) (h : s.agenda = x :: rest) :
    Inv { s with agenda := rest } ∧ inputInv x := by
  have hall := hi.coming
  rw [h] at hall
  exact ⟨{ hi with coming := fun y hy => hall y (List.mem_cons_of_mem x hy) }, hall x List.mem_cons_self⟩

/-- Settles O8: the power-on values field by field, and the step of an empty agenda in P_DONE. -/
theorem resetValues : Obligations.ResetValues := by
  unfold Obligations.ResetValues
  exact ⟨rfl, rfl, rfl, rfl, rfl, rfl, rfl, rfl, rfl, rfl, rfl, rfl, rfl, rfl, rfl, rfl⟩

/-- Settles O9, clause by clause: the flags are false, the decoders and all counts 0, the lines idle. -/
theorem resetKeepsInvariant : Obligations.ResetKeepsInvariant where
  modes := by simp [State.reset, PanelState.zero, atMostOneFlag]
  ranges := by simp [State.reset, PanelState.zero, atMostOneFlag]
  decoder1 := ⟨by decide, by decide, by decide⟩
  decoder2 := ⟨by decide, by decide, by decide⟩
  position1 := rfl
  position2 := rfl
  shown := fun i => by simp [State.reset]
  mailbox := fun i => by simp [State.reset, zeroSnapshot]
  landing := fun x h => by cases h
  coming := fun x h => by cases h
  lines := fun _ => rfl

/-- Settles O10, by the cases of a step. -/
theorem stepKeepsInvariant : Obligations.StepKeepsInvariant := by
  unfold Obligations.StepKeepsInvariant
  intro s t hi hstep
  rcases step_cases hstep with ⟨n, w, rest, i, hag, hdec, hexec⟩ | ⟨n, w, rest, hag, rfl⟩ | ⟨rest, hag, rfl⟩ |
    ⟨x, a, rest, hag, hexec⟩ | ⟨-, rfl⟩ | ⟨-, -, hexec⟩
  · exact exec_inv (decodeWord_ne_rotAddDelta hdec) hexec (hi.agenda_tail hag).1
  · exact (hi.agenda_tail hag).1
  · exact startSession_inv (hi.agenda_tail hag).1
  · obtain ⟨hrest, hx⟩ := hi.agenda_tail hag
    exact exec_inv (by simp) hexec (arrive_inv hrest hx)
  · exact hi
  · have hdrawn : Inv { s with free := s.free + 1 } := hi.of_view rfl id
    exact exec_inv (by simp) hexec (arrive_inv hdrawn (freeInputs_inv _ _))

end Sys2Proof.Machine
end

section
/-! The panel lines along SCAN, DRIVE and a whole iteration: which moments a trace of line events passes through, and
how long it lasts at least. -/

namespace Sys2Proof.Machine

/-! ## One selected row -/

theorem atMostOneBit_zero (n : Nat) : atMostOneBit (0#n) := fun i j hi => by simp at hi

theorem atMostOneBit_selectRow (r : Fin Config.nSwRow) : atMostOneBit (~~~selectRow r) := by
  unfold atMostOneBit; revert r; decide

theorem atMostOneBit_switchRowsHigh : atMostOneBit (~~~7#3) := by unfold atMostOneBit; decide

theorem atMostOneBit_ledRow (r : Fin Config.nLedRow) : atMostOneBit (setBit 0#6 r.val true) := by
  unfold atMostOneBit; revert r; decide

/-! ## The lines along one SCAN (R162, R163, R87) -/

theorem scanEvents_ports (p : Ports) (levels : SwitchMatrix) :
    (scanEvents levels).foldl portsAfter p = { p with swrow := 0b111#3, colDir := true, colOut := 0xFFF#12 } := rfl

/-- Entered with all switch rows high, SCAN never selects two of them, and it leaves the LED rows alone. -/
theorem scanEvents_along {p : Ports} (hp : p.swrow = 0b111#3) (levels : SwitchMatrix) :
    ∀ q ∈ portsAlong p (scanEvents levels), atMostOneBit (~~~q.swrow) ∧ q.ledrow = p.ledrow := by
  simp [scanEvents, scanRowEvents, portsAlong, portsAfter, applyLine, hp, atMostOneBit_selectRow,
    atMostOneBit_zero]

theorem scanEvents_directionKept (p : Ports) (levels : SwitchMatrix) : directionKept p (scanEvents levels) := by
  simp [scanEvents, scanRowEvents, directionKept, portsAfter, applyLine]

theorem scanEvents_blankingKept {p : Ports} (hp : p.ledrow = 0#6) (settled : Bool) (levels : SwitchMatrix) :
    blankingKept p settled (scanEvents levels) := by
  simp [scanEvents, scanRowEvents, blankingKept, portsAfter, applyLine, hp]

theorem scanEvents_duration (levels : SwitchMatrix) :
    leastDuration (scanEvents levels) = 3 * Config.delayUs .settle + Config.delayUs .modePause := by
  simp only [scanEvents, scanRowEvents, List.cons_append, List.nil_append, leastDuration]; omega

/-! ## The lines along one DRIVE (R195, R196) -/

theorem driveEvents_ports (p : Ports) (grid : LedGrid) :
    (driveEvents grid).foldl portsAfter p = { p with colOut := 0xFFF#12, ledrow := 0#6 } := by
  simp [driveEvents, driveRowEvents, portsAfter, applyLine]

/-- DRIVE never energises two LED rows, and it leaves the switch rows and the direction of the columns alone. -/
theorem driveEvents_along (p : Ports) (grid : LedGrid) :
    ∀ q ∈ portsAlong p (driveEvents grid), atMostOneBit q.ledrow ∧ q.swrow = p.swrow ∧ q.colDir = p.colDir := by
  simp only [driveEvents, driveRowEvents, List.cons_append, List.nil_append, portsAlong, portsAfter, applyLine,
    List.forall_mem_cons, List.not_mem_nil, false_imp_iff, implies_true, atMostOneBit_ledRow, atMostOneBit_zero,
    and_self]

theorem driveEvents_directionKept {p : Ports} (hp : p.colDir = true) (grid : LedGrid) :
    directionKept p (driveEvents grid) := by
  simp [driveEvents, driveRowEvents, directionKept, portsAfter, applyLine, hp]

theorem driveEvents_blankingKept (p : Ports) (settled : Bool) (grid : LedGrid) :
    blankingKept p settled (driveEvents grid) := by
  simp [driveEvents, driveRowEvents, blankingKept, portsAfter, applyLine]

theorem driveEvents_duration (grid : LedGrid) :
    leastDuration (driveEvents grid) = 6 * (Config.delayUs .blank + Config.delayUs .vis) := by
  simp only [driveEvents, driveRowEvents, List.cons_append, List.nil_append, leastDuration]; omega

/-- Settles O16: SCAN by `scanLines_eq`, P_SCAN as SCAN in its phase, the moments by the lemmas above. -/
theorem scanReadsTheMatrix : Obligations.ScanReadsTheMatrix := by
  unfold Obligations.ScanReadsTheMatrix
  intro s hok
  have scanned {u : State} (hu : u.ioOkScan = true) : scanMatrix u = scanLines u := by rw [scanMatrix, if_pos hu]
  refine ⟨?_, fun hs => ?_, fun hrows p hp => (scanEvents_along hrows s.colIn p hp).1,
    scanEvents_directionKept s.ports s.colIn⟩
  · exact congrArg Host.Outcome.next ((scanned hok).trans (scanLines_eq s))
  · have hphase : exec .phaseScan s = .next (scanPhase s) := inIteration_of_active s _ hs
    rw [hphase, scanPhase, scanned (u := { s with phase := .scan }) hok, scanLines_eq]
    rfl

/-! ## Traces that keep the lines safe from idle to idle -/

/-- Run from idle lines the events keep the discipline of the lines at every moment and leave the lines idle. -/
structure IdleToIdle (es : List Event) : Prop where
  ends : es.foldl portsAfter Ports.idle = Ports.idle
  safe : ∀ p ∈ portsAlong Ports.idle es, linesSafe p
  direction : directionKept Ports.idle es
  blanking : ∀ settled, blankingKept Ports.idle settled es

/-- Blanking is decided part by part, where the later part does not rely on a wait of the earlier. -/
theorem blankingKept_append {p : Ports} {settled : Bool} {a b : List Event} (ha : blankingKept p settled a)
    (hb : ∀ settled, blankingKept (a.foldl portsAfter p) settled b) : blankingKept p settled (a ++ b) := by
  induction a generalizing p settled with
  | nil => exact hb settled
  | cons e a ih =>
    cases e with
    | line l =>
      cases l with
      | colOut v => obtain ⟨hrow, ha⟩ := ha; exact ⟨hrow, ih ha hb⟩
      | ledrow v => obtain ⟨hset, ha⟩ := ha; exact ⟨hset, ih ha hb⟩
      | colDir outputs => exact ih (p := applyLine (.colDir outputs) p) ha hb
      | swrow v => exact ih (p := applyLine (.swrow v) p) ha hb
      | readCols v => exact ih (p := p) ha hb
    | wait d => cases d <;> exact ih (p := p) ha hb
    | _ => exact ih (p := portsAfter p _) (settled := settled) ha hb

theorem IdleToIdle.append {a b : List Event} (ha : IdleToIdle a) (hb : IdleToIdle b) : IdleToIdle (a ++ b) where
  ends := by rw [List.foldl_append, ha.ends, hb.ends]
  safe p hp := by
    rw [portsAlong_append, ha.ends] at hp
    exact (List.mem_append.1 hp).elim (ha.safe p) (hb.safe p)
  direction := (directionKept_append _ _ _).2 ⟨ha.direction, by rw [ha.ends]; exact hb.direction⟩
  blanking settled := blankingKept_append (ha.blanking settled) (by rw [ha.ends]; exact hb.blanking)

theorem linesSafe_idle : linesSafe Ports.idle :=
  ⟨atMostOneBit_zero 6, atMostOneBit_switchRowsHigh, fun _ => rfl⟩

theorem idleToIdle_of_quiet {es : List Event} (h : ∀ e ∈ es, quiet e) : IdleToIdle es := by
  obtain ⟨hends, halong, hdirection⟩ := quiet_ports h Ports.idle
  refine ⟨hends, fun p hp => by rw [halong p hp]; exact linesSafe_idle, hdirection, fun settled => ?_⟩
  rw [← List.append_nil es]
  exact (quiet_blanking h _ _ []).2 trivial

theorem idleToIdle_wait_idle : IdleToIdle [.wait .idle] :=
  ⟨rfl, by simpa [portsAlong, portsAfter] using linesSafe_idle, by simp [directionKept], by simp [blankingKept]⟩

theorem idleToIdle_scanEvents (levels : SwitchMatrix) : IdleToIdle (scanEvents levels) where
  ends := scanEvents_ports _ _
  safe p hp := by
    obtain ⟨hsw, hled⟩ := scanEvents_along rfl levels p hp
    exact ⟨by rw [hled]; exact atMostOneBit_zero 6, hsw, fun _ => hled⟩
  direction := scanEvents_directionKept _ _
  blanking settled := scanEvents_blankingKept rfl settled levels

theorem idleToIdle_driveEvents (grid : LedGrid) : IdleToIdle (driveEvents grid) where
  ends := driveEvents_ports _ _
  safe p hp := by
    obtain ⟨hled, hsw, hdir⟩ := driveEvents_along Ports.idle grid p hp
    refine ⟨hled, by rw [hsw]; exact atMostOneBit_switchRowsHigh, fun h => ?_⟩
    rw [hsw, hdir] at h
    exact absurd h (by decide)
  direction := driveEvents_directionKept rfl grid
  blanking settled := driveEvents_blankingKept _ settled grid

/-! ## Operations that keep the lines safe from idle to idle -/

/-- From `s` to `t` the lines are safe at every moment and idle at both ends, and the waits last at least `n` µs. -/
def keepsIdleFor (n : Nat) (s t : State) : Prop :=
  t.ports = Ports.idle ∧ ∃ es, t.trace = s.trace ++ es ∧ IdleToIdle es ∧ n ≤ leastDuration es

theorem keepsIdleFor_trans {m n : Nat} {s t u : State} (h1 : keepsIdleFor m s t) (h2 : keepsIdleFor n t u) :
    keepsIdleFor (m + n) s u := by
  obtain ⟨-, es, htrace, hes, hm⟩ := h1
  obtain ⟨hports, fs, htrace', hfs, hn⟩ := h2
  refine ⟨hports, es ++ fs, by rw [htrace', htrace, List.append_assoc], hes.append hfs, ?_⟩
  rw [leastDuration_append]; omega

theorem keepsIdleFor_of_quiet {s t : State} (hports : t.ports = Ports.idle) (h : addsQuietly s t) :
    keepsIdleFor 0 s t := by
  obtain ⟨es, htrace, hquiet⟩ := h
  exact ⟨hports, es, htrace, idleToIdle_of_quiet hquiet, Nat.zero_le _⟩

/-- P_SCAN to P_FEED make the line operations of one SCAN and no other (R280). -/
theorem samplePanel_keepsIdle {s : State} (hports : s.ports = Ports.idle) (hok : s.ioOkScan = true) :
    keepsIdleFor (3 * Config.delayUs .settle + Config.delayUs .modePause) s (samplePanel s) := by
  have hscan : samplePanel s = feedPhase (decodePhase (scanLines { s with phase := .scan })) := by
    rw [samplePanel_eq, if_pos hok, scanMatrix, if_pos hok]
  rw [hscan, scanLines_eq]
  refine ⟨?_, scanEvents s.colIn, rfl, idleToIdle_scanEvents _, (scanEvents_duration _).ge⟩
  show ({ s.ports with swrow := 0b111#3, colDir := true, colOut := 0xFFF#12 } : Ports) = Ports.idle
  rw [hports]; rfl

/-- The halt check and the take touch no line and wait for nothing (R71, R286). -/
theorem takeSnapshot_haltCheck_quiet (b : Bool) (s : State) :
    addsQuietly s (takeSnapshot (haltCheck b { s with phase := .control })) := by
  rw [takeSnapshot_frame, haltCheck_eq]
  refine ⟨_, rfl, fun e he => ?_⟩
  split at he
  · rw [List.mem_singleton.1 he]; trivial
  · cases he

/-- P_CONTROL touches no line; without a snapshot it waits T_IDLE (R283, R284). -/
theorem controlPhase_keepsIdle {s t : State} (h : controlPhase s = .next t) (hports : s.ports = Ports.idle) :
    keepsIdleFor (if s.snapReady then 0 else Config.delayUs .idle) s t := by
  obtain ⟨-, -, -, hkept⟩ := controlPhase_frame h
  have hends : t.ports = Ports.idle := hkept.trans hports
  have hquiet := takeSnapshot_haltCheck_quiet s.work.scanOk s
  rcases controlPhase_cases h with ⟨hready, rfl⟩ | ⟨hready, hbody⟩
  · obtain ⟨es, htrace, hes⟩ := hquiet
    rw [if_neg (by simp [hready])]
    refine ⟨hends, es ++ [.wait .idle], ?_, (idleToIdle_of_quiet hes).append idleToIdle_wait_idle, ?_⟩
    · rw [← List.append_assoc, ← htrace]; rfl
    · rw [leastDuration_append]; exact Nat.le_add_left _ _
  · rw [if_pos hready]
    exact keepsIdleFor_of_quiet hends (addsQuietly_trans hquiet (controlBody_addsQuietly hbody))

/-- P_ENCODE and P_DRIVE make the line operations of one DRIVE and no other (R285). -/
theorem drivePhase_keepsIdle {s : State} (hports : s.ports = Ports.idle) (hok : s.ioOkDrive = true) :
    keepsIdleFor (6 * (Config.delayUs .blank + Config.delayUs .vis)) s (drivePhase (encodePhase s)) := by
  have hdrive : drivePhase (encodePhase s) =
      driveLines (encodePhase s).work.grid { encodePhase s with phase := .drive } := by
    rw [drivePhase, driveGrid]; exact if_pos hok
  rw [hdrive, driveLines_eq]
  refine ⟨?_, driveEvents _, rfl, idleToIdle_driveEvents _, (driveEvents_duration _).ge⟩
  show ({ s.ports with colOut := 0xFFF#12, ledrow := 0#6 } : Ports) = Ports.idle
  rw [hports]; rfl

/-- P_CONTROL leaves the inputs of the line operations as they are. -/
theorem controlPhase_ioOkDrive {s t : State} (h : controlPhase s = .next t) : t.ioOkDrive = s.ioOkDrive := by
  rcases controlPhase_cases h with ⟨-, rfl⟩ | ⟨-, hbody⟩
  · rw [takeSnapshot_frame, haltCheck_eq]; rfl
  · rw [(controlBody_frame hbody).2, takeSnapshot_frame, haltCheck_eq]

/-- ITER keeps idle lines safe and idle; where it reaches its end its waits are those of one SCAN, one DRIVE and the
idle wait (R280, R371). -/
theorem iteration_keepsIdle {s t : State} (h : iteration s = .next t) (hports : s.ports = Ports.idle)
    (hscan : s.ioOkScan = true) (hdrive : s.ioOkDrive = true) :
    keepsIdleFor
      (if t.phase = .done then 0
        else 3 * Config.delayUs .settle + Config.delayUs .modePause +
          (if s.snapReady then 0 else Config.delayUs .idle) + 6 * (Config.delayUs .blank + Config.delayUs .vis))
      s t := by
  rcases iteration_cases h with ⟨-, rfl⟩ | ⟨-, c, hc, hend⟩
  · exact keepsIdleFor_of_quiet hports (addsQuietly_of_eq rfl)
  · have hsampled := samplePanel_keepsIdle (s := { s with phase := .stopchk }) hports hscan
    have hcontrol := controlPhase_keepsIdle hc hsampled.1
    have hready : (samplePanel { s with phase := .stopchk }).snapReady = s.snapReady := by rw [samplePanel_frame]
    have hok : c.ioOkDrive = true := by rw [controlPhase_ioOkDrive hc, samplePanel_frame]; exact hdrive
    have hboth := keepsIdleFor_trans hsampled hcontrol
    rw [hready] at hboth
    rcases hend with ⟨hdone, rfl⟩ | ⟨hgoes, rfl⟩
    · obtain ⟨hidle, es, htrace, hes, -⟩ := hboth
      rw [if_pos (show (endIteration c).phase = .done from hdone)]
      exact ⟨hidle, es, htrace, hes, Nat.zero_le _⟩
    · have hphase : (endIteration (drivePhase (encodePhase c))).phase ≠ .done := by
        show (driveGrid _ _).phase ≠ .done
        rw [driveGrid_frame]; simp
      rw [if_neg hphase]
      exact keepsIdleFor_trans hboth (drivePhase_keepsIdle hcontrol.1 hok)

/-- Settles O57, by the phases of ITER, each from idle lines to idle lines. -/
theorem linesSafeAtEveryMoment : Obligations.LinesSafeAtEveryMoment := by
  unfold Obligations.LinesSafeAtEveryMoment
  intro s t h hports hscan hdrive
  obtain ⟨-, hiter⟩ := (inIteration_eq_next s t _).1 h
  obtain ⟨hidle, es, htrace, hes, hlasts⟩ := iteration_keepsIdle hiter hports hscan hdrive
  refine ⟨hidle, es, htrace, hes.safe, hes.direction, hes.blanking false, fun hgoes => ?_⟩
  rw [if_neg hgoes] at hlasts
  have hpause := delayUs_modePause_pos
  have hsettle := delayUs_settle
  have hblank := delayUs_blank
  have hvis := delayUs_vis
  omega

end Sys2Proof.Machine
end

section
/-! The memory and register primitives, the decimal numeral, the snapshot mailbox and the arrival of an iteration's
inputs. -/

namespace Sys2Proof.Machine

/-! ## The answered primitives (R64 to R68) -/

theorem haltedNow_of_prepared {s : State} {x : Bool} {rest : List Bool} (h : s.answers.halted = x :: rest) :
    haltedNow s = x := by
  rw [haltedNow, h]

theorem readNow_of_prepared {s : State} {x : ReadAnswer} {rest : List ReadAnswer}
    (h : s.answers.reads = x :: rest) : readNow s = x := by
  rw [readNow, h]

theorem writeNow_of_prepared {s : State} {x : Ack} {rest : List Ack} (h : s.answers.writes = x :: rest) :
    writeNow s = x := by
  rw [writeNow, h]

theorem setRegNow_of_prepared {s : State} {x : Ack} {rest : List Ack} (h : s.answers.setRegs = x :: rest) :
    setRegNow s = x := by
  rw [setRegNow, h]

/-- A free answer is a success or a failure: only a prepared one never returns (log 5). -/
theorem readNow_of_free {s : State} (h : s.answers.reads = []) : readNow s ≠ .never := by
  rw [readNow, h]; dsimp only; split <;> simp

theorem writeNow_of_free {s : State} (h : s.answers.writes = []) : writeNow s ≠ .never := by
  rw [writeNow, h]; dsimp only; split <;> simp

theorem setRegNow_of_free {s : State} (h : s.answers.setRegs = []) : setRegNow s ≠ .never := by
  rw [setRegNow, h]; dsimp only; split <;> simp

/-- Settles O36: for each primitive its prepared answer, and its free one. -/
theorem primitiveCallsAndAnswers : Obligations.PrimitiveCallsAndAnswers := by
  unfold Obligations.PrimitiveCallsAndAnswers
  intro s a v
  refine ⟨fun x rest h => ⟨haltedNow_of_prepared h, ?_⟩, fun h => ?_,
    fun x rest h => ⟨readNow_of_prepared h, ?_⟩, fun h => ⟨readNow_of_free h, ?_⟩,
    fun x rest h => ⟨writeNow_of_prepared h, ?_⟩, fun h => ⟨writeNow_of_free h, ?_⟩,
    fun x rest h => ⟨setRegNow_of_prepared h, ?_⟩, fun h => ⟨setRegNow_of_free h, ?_⟩⟩
  · simp only [afterHalted, haltedNow_of_prepared h, h, record]
  · simp only [afterHalted, h, record]
  · simp only [afterRead, readNow_of_prepared h, h, record]
  · simp only [afterRead, h, record]
  · simp only [afterWrite, writeNow_of_prepared h, h, record]
  · simp only [afterWrite, h, record]
  · simp only [afterSetReg, setRegNow_of_prepared h, h, record]
  · simp only [afterSetReg, h, record]

/-! ## The decimal numeral (R66) -/

theorem dec_toList (v : Addr) : (dec v).toList = Nat.toDigits 10 v.toNat := String.toList_ofList

/-- No numeral of a number but 0 begins with the digit 0. -/
theorem toDigits_head_ne_zero {n : Nat} (hn : n ≠ 0) : (Nat.toDigits 10 n).head? ≠ some '0' := by
  induction n using Nat.strongRecOn with
  | _ n ih =>
    by_cases hlt : n < 10
    · rw [Nat.toDigits_of_lt_base hlt]; simpa using hn
    · have hq : n / 10 ≠ 0 := by omega
      have hfront := ih (n / 10) (by omega) hq
      rw [Nat.toDigits_of_base_le (by decide) (by omega), List.head?_append_of_ne_nil _ Nat.toDigits_ne_nil]
      exact hfront

/-- Settles O37: the digits and their value are the library's, the leading digit by the length of the number. -/
theorem decimalNumeralOfAddress : Obligations.DecimalNumeralOfAddress := by
  unfold Obligations.DecimalNumeralOfAddress
  refine ⟨fun v => ?_, by decide, by decide⟩
  simp only [dec_toList]
  refine ⟨Nat.toDigits_ne_nil, fun c hc => Nat.isDigit_of_mem_toDigits (by decide) (by decide) hc, ?_, fun hv => ?_⟩
  · exact Nat.ofDigitChars_eq_foldl.symm.trans Nat.ofDigitChars_ten_toDigits
  · exact toDigits_head_ne_zero fun h => hv (BitVec.eq_of_toNat_eq h)

/-! ## The snapshot mailbox (R70 to R73) -/

theorem takenValues_none (S : Snapshot) : takenValues S none = S := rfl

/-- A take during which no snapshot lands: the flag is cleared, and where it was set the mailbox is read (R71, R73). -/
theorem takeSnapshot_alone {s : State} (h : s.midTake = none) :
    takeSnapshot s =
      if s.snapReady then
        { s with snapReady := false, work.taken := true, work.snap := s.snap, actBuf := s.snap.act }
      else { s with snapReady := false, work.taken := false } := by
  cases hr : s.snapReady <;> simp [takeSnapshot, landMidTake, readMailbox, h, hr, takenValues_none]

/-- A take during which a snapshot lands: where the flag was set the values are a mix of both snapshots, and the newer
one is in the mailbox with the flag set again (R72). -/
theorem takeSnapshot_torn {s : State} {m : MidTake} (h : s.midTake = some m) :
    takeSnapshot s =
      if s.snapReady then
        { s with
          snap := m.newer, snapReady := true, midTake := none, work.taken := true
          work.snap := takenValues s.snap (some m), actBuf := (takenValues s.snap (some m)).act }
      else { s with snap := m.newer, snapReady := true, midTake := none, work.taken := false } := by
  cases hr : s.snapReady <;> simp [takeSnapshot, landMidTake, readMailbox, h, hr]

/-- Settles O47, by whether a snapshot lands during the take and whether one was ready. -/
theorem snapTakeTakesAndClears : Obligations.SnapTakeTakesAndClears := by
  unfold Obligations.SnapTakeTakesAndClears
  have take (s : State) : exec .snapTake s = .next (takeSnapshot s) := rfl
  intro s
  refine ⟨fun hmid hr => ?_, fun hmid hr => ?_, fun m hmid hr => ?_,
    fun m hmid hr => ⟨takenValues s.snap (some m), ?_, rfl, rfl, rfl, fun i => ?_, fun i => ?_⟩⟩
  · rw [take, takeSnapshot_alone hmid, if_pos hr]
  · rw [take, takeSnapshot_alone hmid, if_neg (by simp [hr])]
  · rw [take, takeSnapshot_torn hmid, if_neg (by simp [hr])]
  · rw [take, takeSnapshot_torn hmid, if_pos hr]
  · simp [takenValues]
  · simp [takenValues]

/-! ## The inputs of an iteration (R42, R70, R73, R280, R311) -/

theorem boundSnapshot_wellFormed (S : Snapshot) : (boundSnapshot S).WellFormed :=
  ⟨Nat.mod_lt _ (Nat.two_pow_pos _), boundSnapshot_inDepth S⟩

theorem freeInputs_wellFormed (n : Nat) :
    (∀ S, (freeInputs n).deliver = some S → S.WellFormed) ∧
      (∀ m, (freeInputs n).midTake = some m → m.newer.WellFormed) := by
  constructor
  · intro S hS
    obtain ⟨S', -, rfl⟩ := Option.map_eq_some_iff.1 hS
    exact boundSnapshot_wellFormed S'
  · intro m hm
    obtain ⟨m', -, rfl⟩ := Option.map_eq_some_iff.1 hm
    exact boundSnapshot_wellFormed m'.newer

/-- Settles O5, by the head of the agenda and whether a session runs. -/
theorem stepRunsIteration : Obligations.StepRunsIteration := by
  unfold Obligations.StepRunsIteration
  intro s
  refine ⟨fun x answers rest hag => ?_, fun hag hdone => ?_, fun hag hruns => ?_⟩
  · rw [step, hag]; rfl
  · rw [step, hag]; exact if_pos hdone
  · obtain ⟨hdeliver, hmid⟩ := freeInputs_wellFormed s.free
    exact ⟨freeInputs s.free, by rw [step, hag]; exact if_neg hruns, hdeliver, hmid⟩

end Sys2Proof.Machine
end

section
/-! What the display shows after CONTROL: under `SIM_WB` with the HALT switch falling, and after an iteration that took
a snapshot. -/

namespace Sys2Proof.Machine

/-! ## Commands whose edge has not occurred (R210, R211) -/

theorem loadAddress_of_no_edge {s : State} (h : (edgeOf 1 s).fall = false) : loadAddress s = s := by
  simp [loadAddress, h]

theorem examineWord_of_no_edge {s : State} (h : (edgeOf 2 s).fall = false) : examineWord s = .next s := by
  simp [examineWord, h]

theorem depositWord_of_no_edge {s : State} (h : (edgeOf 3 s).fall = false) : depositWord s = .next s := by
  simp [depositWord, h]

theorem continueStep_of_no_edge {s : State} (h : (edgeOf 4 s).fall = false) : continueStep s = s := by
  simp [continueStep, h]

theorem enableCpu_of_no_edge {s : State} (h : (edgeOf 5 s).rise = false) : enableCpu s = s := by
  simp [enableCpu, h]

theorem startCpu_of_no_edge {s : State} (h : (edgeOf 6 s).fall = false) : startCpu s = .next s := by
  simp [startCpu, h]

theorem reloadSession_of_no_edge {s : State} (h : (edgeOf 7 s).rise = false) : reloadSession s = s := by
  simp [reloadSession, h]

theorem restartSession_of_no_edge {s : State} (h : (edgeOf 8 s).rise = false) : restartSession s = s := by
  simp [restartSession, h]

theorem testDump_of_no_edge {s : State} (h : (edgeOf 0 s).rise = false) : testDump s = s := by
  simp [testDump, h]

/-! ## The HALT switch alone (R228) -/

/-- Among the outputs of the nine samples only the falling edge of `sw_enable_halt` is set. -/
structure OnlyHaltEdge (s : State) : Prop where
  halt : edgeOf 5 s = { rise := false, fall := true }
  others : ∀ k : Fin 9, k ≠ 5 → edgeOf k s = { rise := false, fall := false }

theorem edgeOf_sampleAllEdges (k : Fin 9) (s : State) :
    edgeOf k (sampleAllEdges s) = edgeOutputs s.ed[k] (monitored s.ps k) := by
  rw [sampleAllEdges_eq]; simp [edgeOf]

theorem edgeOutputs_same (b : Bool) : edgeOutputs b b = { rise := false, fall := false } := by cases b <;> rfl

theorem onlyHaltEdge_sampleAllEdges {s : State} (hbefore : s.ed[5] = true) (hnow : s.ps.swEnableHalt = false)
    (hsame : ∀ k : Fin 9, k ≠ 5 → s.ed[k] = monitored s.ps k) : OnlyHaltEdge (sampleAllEdges s) where
  halt := by
    rw [edgeOf_sampleAllEdges]
    show edgeOutputs s.ed[5] s.ps.swEnableHalt = _
    rw [hbefore, hnow]; rfl
  others k hk := by rw [edgeOf_sampleAllEdges, hsame k hk, edgeOutputs_same]

/-- A console command leaves the outputs of the samples as they are. -/
theorem OnlyHaltEdge.of_command {s t : State} (h : OnlyHaltEdge s) (hc : sameButCommands s t) : OnlyHaltEdge t := by
  have hedge (k : Fin 9) : edgeOf k t = edgeOf k s := by rw [hc]; rfl
  exact ⟨(hedge 5).trans h.halt, fun k hk => (hedge k).trans (h.others k hk)⟩

/-- With no other edge the command phase is HALT. -/
theorem runCommands_of_onlyHaltEdge {s : State} (h : OnlyHaltEdge s) (hs : s.phase ≠ .done) :
    runCommands s = .next (haltCpu s) := by
  have hafter : OnlyHaltEdge (haltCpu s) := h.of_command (haltCpu_frame s)
  have hgoes : (haltCpu s).phase ≠ .done := by rw [(haltCpu_plain s).phase]; exact hs
  have noEdge {u : State} (hu : OnlyHaltEdge u) (k : Fin 9) (hk : k ≠ 5) :
      (edgeOf k u).rise = false ∧ (edgeOf k u).fall = false := by rw [hu.others k hk]; exact ⟨rfl, rfl⟩
  unfold runCommands
  rw [loadAddress_of_no_edge (noEdge h 1 (by decide)).2, examineWord_of_no_edge (noEdge h 2 (by decide)).2, andThen_next,
    depositWord_of_no_edge (noEdge h 3 (by decide)).2, andThen_next,
    continueStep_of_no_edge (noEdge h 4 (by decide)).2,
    enableCpu_of_no_edge (by rw [hafter.halt]), startCpu_of_no_edge (noEdge hafter 6 (by decide)).2, andThen_next,
    reloadSession_of_no_edge (noEdge hafter 7 (by decide)).1, if_neg hgoes,
    restartSession_of_no_edge (noEdge hafter 8 (by decide)).1, if_neg hgoes,
    testDump_of_no_edge (noEdge hafter 0 (by decide)).1]

/-- The calls of HALT by the run state it finds: the question, and SimHalt() where the simulator was running. -/
def haltEvents (wasHalted : Bool) : List Event :=
  if wasHalted then [.sim (.halted true)] else [.sim (.halted false), .sim .halt]

theorem haltCpu_trace {s : State} (h : (edgeOf 5 s).fall = true) :
    (haltCpu s).trace = s.trace ++ haltEvents (haltedNow s) := by
  cases hh : haltedNow s <;> simp [haltCpu, haltEvents, h, hh]

/-! ## What SIM_WB says after HALT (R86) -/

/-- A halted simulator stays halted and says so (W2, W5). -/
theorem simWB_halted_answers {last : Option (Addr × Word)} {a : Bool}
    (h : simWB .halted last [.halted a]) : a = true := by
  obtain ⟨-, st, ⟨hstays, hanswer⟩, -⟩ := h
  have hst : st = .halted := hstays.elim id fun hself => absurd hself.1 (by decide)
  exact hanswer.2 hst

/-- Whether HALT found the simulator halted or halted it, the next question is answered "halted". -/
theorem simWB_after_halt {st : RunState} {last : Option (Addr × Word)} {wasHalted a : Bool}
    (h : simWB st last (simCallsOf (haltEvents wasHalted ++ [.sim (.halted a)]))) : a = true := by
  cases wasHalted with
  | true =>
    obtain ⟨-, st', ⟨-, hanswer⟩, hnext⟩ := h
    obtain rfl := hanswer.1 rfl
    exact simWB_halted_answers hnext
  | false =>
    obtain ⟨-, st', -, -, st'', rfl, hnext⟩ := h
    exact simWB_halted_answers hnext

/-- Settles O52: the command phase is HALT alone, and the run state the derivations are given is "halted". -/
theorem haltShowsConsoleAddress : Obligations.HaltShowsConsoleAddress := by
  unfold Obligations.HaltShowsConsoleAddress
  intro s t h hbefore hnow hsame
  obtain ⟨hs, hcontrol⟩ := (inSession_eq_next s t _).1 h
  obtain ⟨c, hc, hend⟩ := controlBody_cases hcontrol
  generalize hu : sampleAllEdges (landMidTake (readMailbox s)) = u at hc
  have hedges : OnlyHaltEdge u := by
    rw [← hu]; exact onlyHaltEdge_sampleAllEdges (by simpa using hbefore) (by simpa using hnow) (by simpa using hsame)
  have hphase : u.phase = s.phase := by rw [← hu, sampleAllEdges_eq]; simp
  have htrace : u.trace = s.trace := by rw [← hu, sampleAllEdges_eq]; simp
  have haddress : u.consoleAddress = s.consoleAddress := by rw [← hu, sampleAllEdges_eq]; simp
  rw [runCommands_of_onlyHaltEdge hedges (by rw [hphase]; exact hs)] at hc
  cases hc
  rcases hend with ⟨hdone, -⟩ | ⟨-, rfl⟩
  · exact absurd (hphase.symm.trans ((haltCpu_plain u).phase.symm.trans hdone)) hs
  · refine ⟨haltEvents (haltedNow u) ++ [.sim (.halted (haltedNow (haltCpu u)))], ?_, fun st last hwb => ?_⟩
    · rw [deriveAll_eq]
      show (afterHalted (haltCpu u)).trace = _
      rw [afterHalted_trace, haltCpu_trace (by rw [hedges.halt]), htrace, List.append_assoc]
    · have hhalted : haltedNow (haltCpu u) = true := simWB_after_halt hwb
      have hkept : (haltCpu u).consoleAddress = u.consoleAddress := haltCpu_kept u .consoleAddress
      rw [deriveAll_eq, hhalted]
      simp [shownAddress, shownBlink, hkept, haddress]

/-! ## The display after the derivations (R250 to R268) -/

/-- The display follows the snapshot `S`: its range, at most one mode, and an address that is `console_address` or the
PC's, without blinkenlights at position 3. -/
structure ShowsSnapshot (S : Snapshot) (t : State) : Prop where
  oneRange : [t.ps.flagAddr16, t.ps.flagAddr18, t.ps.flagAddr22].count true = 1
  range16 : t.ps.flagAddr16 = true ↔ S.pc < 65536
  range22 : t.ps.flagAddr22 = true ↔ 262144 ≤ S.pc
  modes : atMostOneFlag t.ps.flagKernel t.ps.flagSuper t.ps.flagUser
  address : t.ps.address = t.consoleAddress ∨ t.ps.address = BitVec.ofNat 22 (S.pc % 2 ^ 22)
  position3 : t.ps.r1Position = 3#3 → t.ps.address = t.consoleAddress ∧ t.blinkActive = false

/-- Every PC lies in exactly one of the three ranges (R262). -/
theorem rangeFlags_count (pc : Nat) :
    [decide (pc < 2 ^ 16), decide (2 ^ 16 ≤ pc) && decide (pc < 2 ^ 18), decide (2 ^ 18 ≤ pc)].count true = 1 := by
  rcases Nat.lt_or_ge pc (2 ^ 16) with h16 | h16
  · have h22 : ¬ 2 ^ 18 ≤ pc := by omega
    rw [decide_eq_true h16, decide_eq_false (Nat.not_le.2 h16), decide_eq_false h22]; rfl
  · rcases Nat.lt_or_ge pc (2 ^ 18) with h18 | h18
    · rw [decide_eq_false (Nat.not_lt.2 h16), decide_eq_true h16, decide_eq_true h18,
        decide_eq_false (Nat.not_le.2 h18)]; rfl
    · rw [decide_eq_false (Nat.not_lt.2 h16), decide_eq_true h16, decide_eq_false (Nat.not_lt.2 h18),
        decide_eq_true h18]; rfl

/-- The address shown is one of two (R254). -/
theorem shownAddress_cases (S : Snapshot) (h : Bool) (s : State) :
    shownAddress S h s = s.consoleAddress ∨ shownAddress S h s = BitVec.ofNat 22 (S.pc % 2 ^ 22) := by
  unfold shownAddress; split
  · exact .inl rfl
  · right; rw [pc22_eq]; apply BitVec.eq_of_toNat_eq; simp

theorem shownAddress_position3 {S : Snapshot} {h : Bool} {s : State} (hp : s.ps.r1Position = 3#3) :
    shownAddress S h s = s.consoleAddress := by
  simp [shownAddress, hp]

theorem shownBlink_position3 {h : Bool} {s : State} (hp : s.ps.r1Position = 3#3) : shownBlink h s = false := by
  simp [shownBlink, hp]

theorem deriveAll_showsSnapshot (S : Snapshot) (h : Bool) (s : State) : ShowsSnapshot S (deriveAll S h s) := by
  rw [deriveAll_eq]
  exact
    { oneRange := rangeFlags_count S.pc
      range16 := decide_eq_true_iff
      range22 := decide_eq_true_iff
      modes := modeFlags_exclusive _ _
      address := shownAddress_cases S h s
      position3 := fun hp => ⟨shownAddress_position3 hp, shownBlink_position3 hp⟩ }

/-- Where the session goes on, CONTROL ends with the derivations on the snapshot taken and keeps the activity counts and
the flag of the mailbox. -/
theorem controlBody_showsSnapshot {s t : State} (h : controlBody s = .next t) (ht : t.phase ≠ .done) :
    ShowsSnapshot s.work.snap t ∧ t.actBuf = s.actBuf ∧ t.snapReady = s.snapReady := by
  obtain ⟨-, hframe⟩ := controlBody_frame h
  refine ⟨?_, by rw [hframe], by rw [hframe]⟩
  obtain ⟨c, hc, hend⟩ := controlBody_cases h
  have hsnap : c.work.snap = s.work.snap := by rw [runCommands_frame hc, sampleAllEdges_eq]
  rcases hend with ⟨hdone, rfl⟩ | ⟨-, rfl⟩
  · exact absurd hdone ht
  · rw [hsnap]; exact deriveAll_showsSnapshot _ _ _

/-- With a snapshot ready and none landing, P_CONTROL runs CONTROL's body on the snapshot of the mailbox (R71, R73,
R283). -/
theorem controlPhase_takes {s t : State} (h : controlPhase s = .next t) (hready : s.snapReady = true)
    (hmid : s.midTake = none) :
    ∃ u, controlBody u = .next t ∧ u.work.snap = s.snap ∧ u.actBuf = s.snap.act ∧ u.snapReady = false := by
  rcases controlPhase_cases h with ⟨hclear, -⟩ | ⟨-, hbody⟩
  · exact absurd (hclear.symm.trans hready) (by decide)
  · refine ⟨_, hbody, ?_⟩
    generalize hchecked : haltCheck s.work.scanOk { s with phase := .control } = u
    have hsnap : u.snap = s.snap := by rw [← hchecked, haltCheck_eq]
    have hready' : u.snapReady = true := by rw [← hchecked, haltCheck_eq]; exact hready
    have hmid' : u.midTake = none := by rw [← hchecked, haltCheck_eq]; exact hmid
    rw [takeSnapshot_alone hmid', if_pos hready']
    exact ⟨hsnap, congrArg Snapshot.act hsnap, rfl⟩

/-- P_ENCODE, P_DRIVE and the end of ITER write neither PanelState nor a latch, nor what the take wrote (R285). -/
theorem redraw_frame (c : State) :
    let t := endIteration (drivePhase (encodePhase c))
    t.ps = c.ps ∧ t.consoleAddress = c.consoleAddress ∧ t.blinkActive = c.blinkActive ∧ t.actBuf = c.actBuf ∧
      t.snapReady = c.snapReady := by
  rw [drivePhase, driveGrid_frame]
  exact ⟨rfl, rfl, rfl, rfl, rfl⟩

/-- Settles O56: the take reads the mailbox, CONTROL shows it, the redraw leaves the display alone. -/
theorem iterationWithSnapshot : Obligations.IterationWithSnapshot := by
  unfold Obligations.IterationWithSnapshot
  intro s t h hready hmid ht
  obtain ⟨-, hiter⟩ := (inIteration_eq_next s t _).1 h
  rcases iteration_cases hiter with ⟨-, rfl⟩ | ⟨-, c, hc, ⟨hdone, rfl⟩ | ⟨hgoes, rfl⟩⟩
  · exact absurd rfl ht
  · exact absurd hdone ht
  have hsampled : (samplePanel { s with phase := .stopchk }).snap = s.snap := by rw [samplePanel_frame]
  obtain ⟨u, hbody, hsnap, hact, hclear⟩ := controlPhase_takes hc
    (by rw [samplePanel_frame]; exact hready) (by rw [samplePanel_frame]; exact hmid)
  obtain ⟨hshows, hcounts, hflag⟩ := controlBody_showsSnapshot hbody hgoes
  obtain ⟨hps, haddress, hblink, hactBuf, hsnapReady⟩ := redraw_frame c
  rw [hsnap, hsampled] at hshows
  rw [hps, haddress, hblink, hactBuf, hsnapReady, hcounts, hflag, hact, hclear, hsampled]
  exact ⟨hshows.oneRange, hshows.range16, hshows.range22, hshows.modes, hshows.address, hshows.position3, rfl, rfl⟩

end Sys2Proof.Machine
end

section
/-! The decoder and the encoder of spec/30_encoding.md: each table row is read from its own code word and from no other,
and the events are selected by match and mask. -/

namespace Sys2Proof.Machine

/-! ## Decoding a row's own word -/

/-- A row with a code word is what the decoder reads from that word (R90, R125). -/
theorem decode_of_encode {f : Format} {w : Nat} {i : Instr} (h : encode i = some (f, w)) : decode f w = .ok i := by
  cases i with
  | cont halted | reload halted | restart halted | test halted => cases halted <;> cases h <;> rfl
  | _ => cases h <;> rfl

/-! ## Only its own word -/

/-- What a table answers for a word is the row filed under that word. -/
theorem mem_of_lookupRow {table : List (Nat × Instr)} {e : DecodeError} {w : Nat} {i : Instr}
    (h : lookupRow table e w = .ok i) : (w, i) ∈ table := by
  unfold lookupRow at h
  split at h
  case h_1 j hj =>
    cases h
    obtain ⟨before, after, rfl, -⟩ := List.lookup_eq_some_iff.1 hj
    exact List.mem_append_right before List.mem_cons_self
  case h_2 => cases h

/-- The table of every format that is decoded by looking its words up. -/
def rowsOf (f : Format) : List (Nat × Instr) :=
  match f with
  | .sw => swTable
  | .led => ledTable
  | .qt => qtTable
  | .ksu => ksuTable
  | .rsel => rselTable
  | .phase => phaseTable
  | .result => resultTable
  | .ev | .ksu16 => []

/-- Every row of a table is filed under its code word of the table's format. -/
theorem encode_of_mem_rowsOf {f : Format} {w : Nat} {i : Instr} (h : (w, i) ∈ rowsOf f) : encode i = some (f, w) := by
  have filed : ((rowsOf f).all fun row => decide (encode row.2 = some (f, row.1))) = true := by
    cases f <;> decide
  exact of_decide_eq_true (List.all_eq_true.1 filed (w, i) h)

/-- An event word is its low seven bits and the bit `h` (R116). -/
theorem eventWord_parts {w : Nat} (hw : w < 256) : w = w % 128 + haltedBit (w.testBit 7) := by
  have hbit : w.testBit 7 = decide (w / 128 % 2 = 1) := Nat.testBit_eq_decide_div_mod_eq
  rw [hbit]
  unfold haltedBit
  split_ifs with h <;> simp only [decide_eq_true_eq] at h <;> omega

/-- While the simulator runs, five events select a command (R117). -/
theorem decodeEvent_running {w : Nat} (h : w.testBit 7 = false) : decodeEvent w =
    if w % 128 = 0x24 then .ok (.cont false)
    else if w % 128 = 0x25 then .ok .halt
    else if w % 128 = 0x5A then .ok (.reload false)
    else if w % 128 = 0x5B then .ok (.restart false)
    else if w % 128 = 0x60 then .ok (.test false)
    else .error .noCommand := by
  unfold decodeEvent
  dsimp only
  rw [h]
  generalize w % 128 = e
  by_cases hcommand : e = 0x24 ∨ e = 0x25 ∨ e = 0x5A ∨ e = 0x5B ∨ e = 0x60
  · rcases hcommand with rfl | rfl | rfl | rfl | rfl <;> rfl
  · simp only [not_or] at hcommand
    obtain ⟨hcont, hhalt, hreload, hrestart, htest⟩ := hcommand
    simp [hcont, hhalt, hreload, hrestart, htest, Config.btnPinmap, cellWord, Config.startRequiresHalt]

/-- While the simulator is halted, nine events select a command (R117). -/
theorem decodeEvent_halted {w : Nat} (h : w.testBit 7 = true) : decodeEvent w =
    if w % 128 = 0x21 then .ok .loadAddr
    else if w % 128 = 0x22 then .ok .exam
    else if w % 128 = 0x23 then .ok .dep
    else if w % 128 = 0x24 then .ok (.cont true)
    else if w % 128 = 0x65 then .ok .enable
    else if w % 128 = 0x27 then .ok .start
    else if w % 128 = 0x5A then .ok (.reload true)
    else if w % 128 = 0x5B then .ok (.restart true)
    else if w % 128 = 0x60 then .ok (.test true)
    else .error .noCommand := by
  unfold decodeEvent
  dsimp only
  rw [h]
  by_cases hhalt : w % 128 = 0x25
  · rw [hhalt]; rfl
  · simp [hhalt, Config.btnPinmap, cellWord]

/-- The command an event word selects has the word's low seven bits and its bit `h` for a code word (R116, R117). -/
theorem encode_of_decodeEvent {w : Nat} {i : Instr} (h : decodeEvent w = .ok i) :
    encode i = some (.ev, w % 128 + haltedBit (w.testBit 7)) := by
  cases hbit : w.testBit 7
  case' false => rw [decodeEvent_running hbit] at h
  case' true => rw [decodeEvent_halted hbit] at h
  all_goals
    generalize w % 128 = e at h ⊢
    repeat' split at h
    all_goals cases h
    all_goals subst_vars; rfl

/-- The decoder reads a row from no word but its own (R90). -/
theorem encode_of_decode {f : Format} {w : Nat} {i : Instr} (h : decode f w = .ok i) : encode i = some (f, w) := by
  unfold decode at h
  split at h
  · cases h
  next hfits =>
    cases f with
    | ev => rw [encode_of_decodeEvent h, ← eventWord_parts (by simpa [formatWidth] using hfits)]
    | ksu16 => dsimp only at h; split_ifs at h with hzero; cases h; subst hzero; rfl
    | _ => exact encode_of_mem_rowsOf (mem_of_lookupRow h)

/-- Settles O1, by the cases of the encoder one way and by the tables and the event chain the other. -/
theorem decodeInvertsEncode : Obligations.DecodeInvertsEncode := by
  unfold Obligations.DecodeInvertsEncode
  intro f w i
  exact ⟨encode_of_decode, decode_of_encode⟩

/-- Settles O2: the words that have a row by their code words, the other two by looking them up. -/
theorem tableWordsDecode : Obligations.TableWordsDecode :=
  ⟨decode_of_encode rfl, decode_of_encode rfl, decode_of_encode rfl, decode_of_encode rfl, decode_of_encode rfl,
    decode_of_encode rfl, decode_of_encode rfl, decode_of_encode rfl, decode_of_encode rfl, decode_of_encode rfl,
    rfl, rfl⟩

/-! ## Events by match and mask (R117) -/

/-- Trying formats one after the other fails only with the error given for it. -/
theorem firstRow_error {fs : List Format} {e e' : DecodeError} {w : Nat} (h : firstRow fs e w = .error e') :
    e' = e := by
  induction fs with
  | nil => cases h; rfl
  | cons f rest ih =>
    unfold firstRow at h
    split at h
    case h_1 => cases h
    case h_2 => exact ih h

/-- A byte that selects no row is an event that selects no command (R118). -/
theorem decodeWord_byte_error {w : Nat} {e : DecodeError} (hw : w < 256) (h : decodeWord 8 w = .error e) :
    e = .noCommand := by
  rw [firstRow_error h, if_pos ⟨.inl rfl, hw⟩]

/-- A step on a word that selects no command takes the word (log 4). -/
theorem step_of_noCommand {s : State} {n w : Nat} {rest : List Input} (hag : s.agenda = .word n w :: rest)
    (h : decodeWord n w = .error .noCommand) : step s = .next { s with agenda := rest } := by
  unfold step
  simp only [hag, h]

/-- The event decoder reads the ten match words of the table, each under its mask (R117). -/
theorem decode_ev_matchMask (w : Nat) (hw : w < 256) : decode .ev w =
    if w &&& 0xFF = 0xA1 then .ok .loadAddr
    else if w &&& 0xFF = 0xA2 then .ok .exam
    else if w &&& 0xFF = 0xA3 then .ok .dep
    else if w &&& 0x7F = 0x24 then .ok (.cont (w.testBit 7))
    else if w &&& 0xFF = 0x25 then .ok .halt
    else if w &&& 0xFF = 0xE5 then .ok .enable
    else if w &&& 0xFF = 0xA7 then .ok .start
    else if w &&& 0x7F = 0x5A then .ok (.reload (w.testBit 7))
    else if w &&& 0x7F = 0x5B then .ok (.restart (w.testBit 7))
    else if w &&& 0x7F = 0x60 then .ok (.test (w.testBit 7))
    else .error .noCommand := by
  have hmask8 : w &&& 0xFF = w := (Nat.and_two_pow_sub_one_eq_mod w 8).trans (Nat.mod_eq_of_lt hw)
  have hmask7 : w &&& 0x7F = w % 128 := Nat.and_two_pow_sub_one_eq_mod w 7
  have hfits : decode .ev w = decodeEvent w := if_neg (by simp [formatWidth, hw])
  have hparts := eventWord_parts hw
  have hlow : w % 128 < 128 := Nat.mod_lt w (by decide)
  rw [hmask8, hmask7, hfits]
  cases hbit : w.testBit 7 with
  | false =>
    have hword : w = w % 128 := by rwa [hbit] at hparts
    rw [decodeEvent_running hbit, ← hword, if_neg (by omega : w ≠ 0xA1), if_neg (by omega : w ≠ 0xA2),
      if_neg (by omega : w ≠ 0xA3), if_neg (by omega : w ≠ 0xE5), if_neg (by omega : w ≠ 0xA7)]
  | true =>
    have hword : w = w % 128 + 128 := by rwa [hbit] at hparts
    have hhigh (e : Nat) : w = e + 128 ↔ w % 128 = e := by omega
    rw [decodeEvent_halted hbit, if_neg (by omega : w ≠ 0x25)]
    simp only [← hhigh]

/-- Settles O3: the event chain under its masks, and a step on a byte that no format has. -/
theorem eventWordsMatchAndMask : Obligations.EventWordsMatchAndMask := by
  unfold Obligations.EventWordsMatchAndMask
  refine ⟨decode_ev_matchMask, fun s w rest e hag hw hdec => ?_⟩
  rw [decodeWord_byte_error hw hdec] at hdec
  exact step_of_noCommand hag hdec

end Sys2Proof.Machine
end

section
/-! The rows of the two matrices: a row of format SW copies the cell its code word names, a row of format LED lights the
cell its code word names; DECODE and ENCODE put every cell in its place, and the rows of a table run one after the
other. -/

namespace Sys2Proof.Machine

/-! ## The cell a code word names -/

/-- The row and the column of a switch-matrix code word `rrcccc` (R90, R92). -/
def swWordRow (w : Nat) : Fin Config.nSwRow := Fin.ofNat Config.nSwRow (w / 16)

/-- The row of an LED-grid code word `rrrcccc` (R90, R98). -/
def ledWordRow (w : Nat) : Fin Config.nLedRow := Fin.ofNat Config.nLedRow (w / 16)

theorem cellWord_column {r c : Nat} (hc : c < 16) : cellWord r c % 16 = c := by unfold cellWord; omega

theorem cellWord_row {r c : Nat} (hc : c < 16) : cellWord r c / 16 = r := by unfold cellWord; omega

theorem swWordRow_cellWord (r : Fin Config.nSwRow) {c : Nat} (hc : c < 16) : swWordRow (cellWord r c) = r := by
  rw [swWordRow, cellWord_row hc, Fin.ofNat_val_eq_self]

theorem ledWordRow_cellWord (r : Fin Config.nLedRow) {c : Nat} (hc : c < 16) : ledWordRow (cellWord r c) = r := by
  rw [ledWordRow, cellWord_row hc, Fin.ofNat_val_eq_self]

/-- Where the cell of a switch-matrix code word goes: the switch register for row 0 and row 1 up to column 9, the
buttons, then the control switches and the quadrature inputs of row 2 (R92 to R96). -/
def swTarget (w : Nat) : SwitchTarget :=
  match w with
  | 0x1A => .r1Button
  | 0x1B => .r2Button
  | 0x20 => .swTest
  | 0x21 => .swLoadAddr
  | 0x22 => .swExam
  | 0x23 => .swDep
  | 0x24 => .swCont
  | 0x25 => .swEnableHalt
  | 0x26 => .swSinstSbusCycle
  | 0x27 => .swStart
  | 0x28 => .q1a
  | 0x29 => .q1b
  | 0x2A => .q2a
  | 0x2B => .q2b
  | w => .sr (12 * (w / 16) + w % 16)

/-- A row of format SW copies the cell its word names to that cell's target (R91 to R96; log 26). -/
theorem exec_of_swWord {i : Instr} {w : Nat} (h : encode i = some (.sw, w)) (s : State) :
    exec i s = .next (decodeCell (swWordRow w) (w % 16) (swTarget w) s) := by
  cases i with
  | _ => cases h <;> rfl

/-- A row of format LED lights the cell its word names (R98 to R106; log 26). -/
theorem exec_of_ledWord {i : Instr} {w : Nat} (h : encode i = some (.led, w)) (s : State) :
    exec i s = .next (encodeCell (ledWordRow w) (w % 16) s) := by
  cases i with
  | _ => cases h <;> rfl

/-! ## One row of the switch matrix (R92 to R96) -/

/-- A row whose cell feeds bit `n` of the switch register writes that bit and nothing else. -/
theorem setsSwitchBit_of_cell {i : Instr} (r : Fin Config.nSwRow) {c n : Nat} (s : State)
    (h : encode i = some (.sw, cellWord r c)) (hc : c < 12) (ht : swTarget (cellWord r c) = .sr n) :
    setsSwitchBit i n (rawCell s.work.raw r c) s := by
  have hexec := exec_of_swWord h s
  rw [swWordRow_cellWord r (by omega), cellWord_column (by omega), ht] at hexec
  refine ⟨setBit s.work.switches.sr n (rawCell s.work.raw r c), hexec, fun j hj => ?_⟩
  rw [getLsbD_setBit]
  simp [hj]

/-- Settles O11: each row's word names its cell and its bit. -/
theorem switchRegisterRows : Obligations.SwitchRegisterRows := by
  unfold Obligations.SwitchRegisterRows
  intro s
  constructor
  · intro x hx
    fin_cases hx <;> exact setsSwitchBit_of_cell 0 s (by rfl) (by decide) (by rfl)
  · intro x hx
    fin_cases hx <;> exact setsSwitchBit_of_cell 1 s (by rfl) (by decide) (by rfl)

/-- Settles O12: each row's word names its cell and its flag. -/
theorem controlSwitchRows : Obligations.ControlSwitchRows := by
  unfold Obligations.ControlSwitchRows
  intro s
  exact ⟨exec_of_swWord (w := 0x1A) rfl s, exec_of_swWord (w := 0x1B) rfl s, exec_of_swWord (w := 0x20) rfl s,
    exec_of_swWord (w := 0x21) rfl s, exec_of_swWord (w := 0x22) rfl s, exec_of_swWord (w := 0x23) rfl s,
    exec_of_swWord (w := 0x24) rfl s, exec_of_swWord (w := 0x25) rfl s, exec_of_swWord (w := 0x26) rfl s,
    exec_of_swWord (w := 0x27) rfl s, exec_of_swWord (w := 0x28) rfl s, exec_of_swWord (w := 0x29) rfl s,
    exec_of_swWord (w := 0x2A) rfl s, exec_of_swWord (w := 0x2B) rfl s⟩

/-! ## One row of the LED grid (R98 to R106) -/

/-- The lamp of rotary-1 position `p`, compared as positions (R104). -/
theorem rotary1Lamp_eq (ps : PanelState) {p : Nat} (hp : p < 8) :
    rotary1Lamp ps p = decide (ps.r1Position = BitVec.ofNat 3 p) :=
  decide_eq_decide.2 (by rw [← BitVec.toNat_inj, BitVec.toNat_ofNat, Nat.mod_eq_of_lt hp])

/-- The lamp of rotary-2 position `q`, compared as positions (R105). -/
theorem rotary2Lamp_eq (ps : PanelState) {q : Nat} (hq : q < 4) :
    rotary2Lamp ps q = decide (ps.r2Position = BitVec.ofNat 2 q) :=
  decide_eq_decide.2 (by rw [← BitVec.toNat_inj, BitVec.toNat_ofNat, Nat.mod_eq_of_lt hq])

/-- What an address lamp shows with the activity buffer by `blink_active` (R99, R100, R182). -/
theorem addressLamp_shown (s : State) (n : Nat) : addressLamp s.ps (shownActivity s) n = addressShown s n := by
  unfold shownActivity addressShown
  split <;> rfl

/-- The row of a cell sets the lamp of that cell to its source and nothing else. -/
theorem setsLamp_of_ledWord {i : Instr} {r : Fin Config.nLedRow} {c : Nat} {b : Bool}
    (s : State) (h : encode i = some (.led, cellWord r c)) (hb : ledCell s.ps (shownActivity s) r c = b)
    (hc : c < 12 := by decide) : setsLamp i r c b s := by
  have hexec := exec_of_ledWord h s
  rw [ledWordRow_cellWord r (by omega), cellWord_column (by omega)] at hexec
  refine ⟨setBit (s.work.grid.row r) c b, hb ▸ hexec, fun j hj => ?_⟩
  rw [getLsbD_setBit]
  simp [hj]

/-- Settles O30: each row's cell is the one its word names, its source the address lamp. -/
theorem addressLampRows : Obligations.AddressLampRows := by
  unfold Obligations.AddressLampRows
  intro s
  constructor
  · intro x hx
    fin_cases hx <;> exact setsLamp_of_ledWord s rfl (addressLamp_shown s _)
  · intro x hx
    fin_cases hx <;> exact setsLamp_of_ledWord s rfl (addressLamp_shown s _)

/-- The row of a status flag shows the flag in the column the order gives it (R101). -/
theorem setsLamp_of_flag (f : Config.StatusFlag) {i : Instr}
    (h : encode i = some (.led, cellWord 2 (statusColumn f))) (s : State) :
    setsLamp i 2 (statusColumn f) (statusFlag s.ps f) s :=
  setsLamp_of_ledWord (r := 2) s h (ledCell_statusColumn s.ps _ f) (by cases f <;> decide)

/-- The row of a rotary-1 position lights its cell exactly there: row 4 for positions 0 to 3, row 5 above (R104). -/
theorem setsLamp_of_position1 {i : Instr} (r : Fin Config.nLedRow) {c : Nat} (p : Nat) (s : State)
    (h : encode i = some (.led, cellWord r c)) (hcell : ledCell s.ps (shownActivity s) r c = rotary1Lamp s.ps p)
    (hc : c < 12 := by decide) (hp : p < 8 := by decide) :
    setsLamp i r c (decide (s.ps.r1Position = BitVec.ofNat 3 p)) s :=
  setsLamp_of_ledWord s h (hcell.trans (rotary1Lamp_eq s.ps hp)) hc

/-- The row of a rotary-2 position lights its cell exactly there: row 4 for positions 0 and 1, row 5 above (R105). -/
theorem setsLamp_of_position2 {i : Instr} (r : Fin Config.nLedRow) {c : Nat} (q : Nat) (s : State)
    (h : encode i = some (.led, cellWord r c)) (hcell : ledCell s.ps (shownActivity s) r c = rotary2Lamp s.ps q)
    (hc : c < 12 := by decide) (hq : q < 4 := by decide) :
    setsLamp i r c (decide (s.ps.r2Position = BitVec.ofNat 2 q)) s :=
  setsLamp_of_ledWord s h (hcell.trans (rotary2Lamp_eq s.ps hq)) hc

/-- Settles O31: each row's cell is the one its word names; its source is the cell's in the grid. -/
theorem flagDataAndRotaryLampRows : Obligations.FlagDataAndRotaryLampRows := by
  unfold Obligations.FlagDataAndRotaryLampRows
  intro s
  refine ⟨setsLamp_of_flag .addr22 rfl s, setsLamp_of_flag .addr18 rfl s, setsLamp_of_flag .addr16 rfl s,
    setsLamp_of_flag .data rfl s, setsLamp_of_flag .kernel rfl s, setsLamp_of_flag .super rfl s,
    setsLamp_of_flag .user rfl s, setsLamp_of_flag .master rfl s, setsLamp_of_flag .pause rfl s,
    setsLamp_of_flag .run rfl s, setsLamp_of_flag .addrErr rfl s, setsLamp_of_flag .parErr rfl s, ?data3, ?data4,
    setsLamp_of_ledWord s rfl rfl, setsLamp_of_ledWord s rfl rfl, setsLamp_of_position1 4 0 s rfl rfl,
    setsLamp_of_position1 4 1 s rfl rfl, setsLamp_of_position1 4 2 s rfl rfl, setsLamp_of_position1 4 3 s rfl rfl,
    setsLamp_of_position1 5 4 s rfl rfl, setsLamp_of_position1 5 5 s rfl rfl, setsLamp_of_position1 5 6 s rfl rfl,
    setsLamp_of_position1 5 7 s rfl rfl, setsLamp_of_position2 4 0 s rfl rfl, setsLamp_of_position2 4 1 s rfl rfl,
    setsLamp_of_position2 5 2 s rfl rfl, setsLamp_of_position2 5 3 s rfl rfl, setsLamp_of_ledWord s rfl rfl,
    setsLamp_of_ledWord s rfl rfl, setsLamp_of_ledWord s rfl rfl, setsLamp_of_ledWord s rfl rfl,
    setsLamp_of_ledWord s rfl rfl, setsLamp_of_ledWord s rfl rfl, setsLamp_of_ledWord s rfl rfl,
    setsLamp_of_ledWord s rfl rfl⟩
  case data3 | data4 =>
    intro x hx
    fin_cases hx <;> exact setsLamp_of_ledWord s rfl rfl

/-! ## ENCODE (R180, R181) -/

/-- Bit `c` of a row of the grid is the source of cell `(r, c)` (R181). -/
theorem ledRowWord_getLsbD (ps : PanelState) (act : Option Activity) (r : Fin Config.nLedRow) {c : Nat} (hc : c < 12) :
    (ledRowWord ps act r).getLsbD c = ledCell ps act r c := by
  rw [ledRowWord, BitVec.getLsbD_ofFnLE, dif_pos hc]

/-- Settles O32: each cell of the grid is its source, row by row. -/
theorem encodePlacesEveryCell : Obligations.EncodePlacesEveryCell := by
  unfold Obligations.EncodePlacesEveryCell
  intro act s lamp
  have cell (r : Fin Config.nLedRow) {c : Nat} (hc : c < 12 := by decide) :
      (ledRowWord s.ps act r).getLsbD c = ledCell s.ps act r c := ledRowWord_getLsbD s.ps act r hc
  have haddress (i : Nat) : addressLamp s.ps act i = lamp i := by cases act <;> rfl
  refine ⟨encodeGrid s.ps act, rfl, fun i hi => (cell 0 hi).trans (haddress i), fun i hi => ?row1,
    cell 1, cell 1, ?row2, fun c hc => cell 3 hc, fun c hc => ?data4, cell 4, cell 4,
    fun p hp => ⟨?position1low, ?position1high⟩, fun q hq => ⟨?position2low, ?position2high⟩, fun c hc => ?dark⟩
  case row1 => rw [← haddress]; exact (cell 1 (by omega)).trans (if_pos hi)
  case row2 => exact List.map_congr_left fun c hc => cell 2 (List.mem_range.1 hc)
  case data4 => exact (cell 4 (by omega)).trans (if_pos hc)
  case position1low => interval_cases p <;> exact cell 4
  case position1high => interval_cases p <;> exact cell 5
  case position2low => interval_cases q <;> exact cell 4
  case position2high => interval_cases q <;> exact cell 5
  case dark => exact (cell 5 (by omega)).trans (if_pos hc)

/-! ## DECODE (R167, R168) -/

/-- Settles O13: the assembled switch register bit by bit; the flags are the cells. -/
theorem decodePlacesEveryCell : Obligations.DecodePlacesEveryCell := by
  unfold Obligations.DecodePlacesEveryCell
  intro raw s
  refine ⟨assembleSr raw, fun c hc => ?_, fun c hc => ?_, rfl⟩
  · rw [assembleSr_getLsbD, if_pos hc]
  · rw [assembleSr_getLsbD, if_neg (by omega), Nat.add_sub_cancel_left, decide_eq_true (by omega), Bool.true_and]

/-! ## The rows of a table one after the other (R91) -/

/-- Rows that always complete run one after the other. -/
theorem runAll_table {table : List (Nat × Instr)} {f : Nat → State → State}
    (h : ∀ row ∈ table, ∀ s, exec row.2 s = .next (f row.1 s)) (s : State) :
    runAll (table.map Prod.snd) s = .next ((table.map Prod.fst).foldl (fun s w => f w s) s) := by
  induction table generalizing s with
  | nil => rfl
  | cons row rest ih =>
    simp only [List.map_cons, runAll, h row List.mem_cons_self s, andThen_next, List.foldl_cons]
    exact ih (fun x hx => h x (List.mem_cons_of_mem row hx)) _

/-- The switches with the cell of the code word `w` copied to its target. -/
def copyCell (raw : SwitchMatrix) (d : Switches) (w : Nat) : Switches :=
  setTarget d (swTarget w) (rawCell raw (swWordRow w) (w % 16))

/-- Rows of format SW one after the other write the decoded switches only. -/
theorem foldl_decodeCell (words : List Nat) (s : State) :
    words.foldl (fun s w => decodeCell (swWordRow w) (w % 16) (swTarget w) s) s =
      { s with work.switches := words.foldl (copyCell s.work.raw) s.work.switches } := by
  induction words generalizing s with
  | nil => rfl
  | cons w rest ih => exact ih (decodeCell (swWordRow w) (w % 16) (swTarget w) s)

/-- The code word of the cell that feeds bit `i` of the switch register: 12 bits from row 0, the others from row 1
(R92, R93). -/
def srWord (i : Nat) : Nat := cellWord (i / 12) (i % 12)

/-- The code words of the cells that feed no bit of the switch register (R94 to R96). -/
def flagWords : List Nat := [0x1A, 0x1B, 0x20, 0x21, 0x22, 0x23, 0x24, 0x25, 0x26, 0x27, 0x28, 0x29, 0x2A, 0x2B]

theorem swTable_words : swTable.map Prod.fst = (List.range 22).map srWord ++ flagWords := by decide

/-- The cell of switch-register bit `i` writes that bit (R97). -/
theorem copyCell_srWord (raw : SwitchMatrix) (d : Switches) {i : Nat} (hi : i < 22) :
    copyCell raw d (srWord i) = { d with sr := setBit d.sr i ((assembleSr raw).getLsbD i) } := by
  have hcell : copyCell raw d (srWord i) =
      { d with sr := setBit d.sr i (if i < 12 then raw.row0.getLsbD i else raw.row1.getLsbD (i - 12)) } := by
    interval_cases i <;> rfl
  rw [hcell, assembleSr_getLsbD, decide_eq_true hi, Bool.true_and]

/-- The cells of some bits of the switch register, one after the other, write the switch register only. -/
theorem foldl_copyCell_srWord (raw : SwitchMatrix) {bits : List Nat} (h : ∀ i ∈ bits, i < 22) (d : Switches) :
    (bits.map srWord).foldl (copyCell raw) d =
      { d with sr := bits.foldl (fun v i => setBit v i ((assembleSr raw).getLsbD i)) d.sr } := by
  induction bits generalizing d with
  | nil => rfl
  | cons i rest ih =>
    rw [List.map_cons, List.foldl_cons, copyCell_srWord raw d (h i List.mem_cons_self)]
    exact ih (fun x hx => h x (List.mem_cons_of_mem i hx)) _

/-- The other cells write every flag and leave the switch register alone (R94 to R96). -/
theorem foldl_copyCell_flagWords (raw : SwitchMatrix) (d : Switches) :
    flagWords.foldl (copyCell raw) d = { decodeRaw raw with sr := d.sr } := by
  cases d
  rfl

/-- Writing bits one after the other: a bit in the list is what was written to it, the others stay. -/
theorem getLsbD_foldl_setBit {n : Nat} (f : Nat → Bool) (bits : List Nat) (v : BitVec n) {j : Nat} (hj : j < n) :
    (bits.foldl (fun v i => setBit v i (f i)) v).getLsbD j = if j ∈ bits then f j else v.getLsbD j := by
  induction bits generalizing v with
  | nil => simp
  | cons i rest ih =>
    rw [List.foldl_cons, ih, getLsbD_setBit]
    by_cases hmem : j ∈ rest
    · simp [hmem]
    · rcases eq_or_ne j i with rfl | hji
      · simp [hj, hmem]
      · simp [hji, hmem]

/-- Writing every bit of a word from `x` makes the word `x`. -/
theorem foldl_setBit_range {n : Nat} (x v : BitVec n) :
    (List.range n).foldl (fun v i => setBit v i (x.getLsbD i)) v = x :=
  BitVec.eq_of_getLsbD_eq fun j hj => by rw [getLsbD_foldl_setBit _ _ _ hj, if_pos (List.mem_range.2 hj)]

/-- The cells of all 36 rows make what DECODE returns, whatever the switches were (R167, R168). -/
theorem foldl_copyCell_swTable (raw : SwitchMatrix) (d : Switches) :
    (swTable.map Prod.fst).foldl (copyCell raw) d = decodeRaw raw := by
  rw [swTable_words, List.foldl_append, foldl_copyCell_srWord raw fun i hi => List.mem_range.1 hi,
    foldl_copyCell_flagWords, foldl_setBit_range]
  rfl

/-- Settles O14: the rows are cells copied one after the other. -/
theorem decodeEqualsItsRows : Obligations.DecodeEqualsItsRows := by
  unfold Obligations.DecodeEqualsItsRows
  intro s
  have hrun := runAll_table (table := swTable) (f := fun w => decodeCell (swWordRow w) (w % 16) (swTarget w))
    (fun row hrow => exec_of_swWord (encode_of_mem_rowsOf (f := .sw) hrow)) s
  rw [swRows, hrun, foldl_decodeCell, foldl_copyCell_swTable]
  rfl

end Sys2Proof.Machine
end

section
/-! The rows of the formats QT, KSU, KSU16, RSEL, RESULT and PHASE: the delta of a transition, the flags of a mode, the
register selected, the session results and the end of a session. -/

namespace Sys2Proof.Machine

/-! ## Transitions, modes and registers (R108 to R114) -/

/-- A row of format QT gives the delta of the transition `ppnn` its word names (R108 to R111; log 26). -/
theorem exec_of_qtWord {i : Instr} {w : Nat} (h : encode i = some (.qt, w)) (s : State) :
    exec i s = .next (setDelta (quadDelta (BitVec.ofNat 2 (w / 4)) (BitVec.ofNat 2 (w % 4))) s) := by
  cases i with
  | _ => cases h <;> rfl

/-- A row of format RSEL shows the register its word `sss` selects (R114; log 26). -/
theorem exec_of_rselWord {i : Instr} {w : Nat} (h : encode i = some (.rsel, w)) (s : State) :
    exec i s = .next (selectRegister (BitVec.ofNat 3 w) s) := by
  cases i with
  | _ => cases h <;> rfl

/-- A mode row sets the flags it is given where the PSW taken is not zero, and clears all three where it is (R112, R113;
log 28). -/
theorem modeRow_eq (kernel super user : Bool) (s : State) :
    modeRow kernel super user s =
      { s with
        ps := { s.ps with
                flagKernel := decide (s.work.snap.psw ≠ 0) && kernel
                flagSuper := decide (s.work.snap.psw ≠ 0) && super
                flagUser := decide (s.work.snap.psw ≠ 0) && user } } := by
  have hnz : (s.work.snap.psw != 0) = decide (s.work.snap.psw ≠ 0) := by simp [bne, BEq.beq]
  unfold modeRow setMode
  rw [hnz]

/-- Selector 7 shows the low 16 bits of the program counter (R114). -/
theorem selectRegister_pc (s : State) :
    selectRegister 7#3 s = { s with work.regValue := BitVec.ofNat 16 (s.work.snap.pc % 2 ^ 16) } := by
  have hlow : BitVec.ofNat 16 (s.work.snap.pc % 2 ^ 16) = BitVec.ofNat 16 s.work.snap.pc :=
    BitVec.eq_of_toNat_eq (by simp)
  rw [hlow]
  rfl

/-- Settles O18: the transitions and the registers by their words, the modes by the flags of a mode row. -/
theorem transitionModeAndRegisterRows : Obligations.TransitionModeAndRegisterRows := by
  unfold Obligations.TransitionModeAndRegisterRows
  intro s
  refine ⟨exec_of_qtWord (w := 0x0) rfl s, exec_of_qtWord (w := 0x1) rfl s, exec_of_qtWord (w := 0x2) rfl s,
    exec_of_qtWord (w := 0x3) rfl s, exec_of_qtWord (w := 0x4) rfl s, exec_of_qtWord (w := 0x5) rfl s,
    exec_of_qtWord (w := 0x6) rfl s, exec_of_qtWord (w := 0x7) rfl s, exec_of_qtWord (w := 0x8) rfl s,
    exec_of_qtWord (w := 0x9) rfl s, exec_of_qtWord (w := 0xA) rfl s, exec_of_qtWord (w := 0xB) rfl s,
    exec_of_qtWord (w := 0xC) rfl s, exec_of_qtWord (w := 0xD) rfl s, exec_of_qtWord (w := 0xE) rfl s,
    exec_of_qtWord (w := 0xF) rfl s, ?mode0, ?mode1, ?mode2, ?mode3, rfl, exec_of_rselWord (w := 0) rfl s,
    exec_of_rselWord (w := 1) rfl s, exec_of_rselWord (w := 2) rfl s, exec_of_rselWord (w := 3) rfl s,
    exec_of_rselWord (w := 4) rfl s, exec_of_rselWord (w := 5) rfl s, exec_of_rselWord (w := 6) rfl s, ?pc⟩
  case mode0 => exact congrArg Host.Outcome.next ((modeRow_eq true false false s).trans (by simp))
  case mode1 => exact congrArg Host.Outcome.next ((modeRow_eq false true false s).trans (by simp))
  case mode2 => exact congrArg Host.Outcome.next ((modeRow_eq false false false s).trans (by simp))
  case mode3 => exact congrArg Host.Outcome.next ((modeRow_eq false false true s).trans (by simp))
  case pc => exact (exec_of_rselWord (w := 7) rfl s).trans (congrArg Host.Outcome.next (selectRegister_pc s))

/-! ## The end of a session (R119, R120, R234, R235, R287) -/

/-- RELOAD with its edge writes its result and ends the session (R234). -/
theorem reloadSession_of_edge {s : State} (h : (edgeOf 7 s).rise = true) :
    reloadSession s = { s with sessionResult := .reload, phase := .done } := if_pos h

/-- RESTART with its edge writes its result and ends the session (R235). -/
theorem restartSession_of_edge {s : State} (h : (edgeOf 8 s).rise = true) :
    restartSession s = { s with sessionResult := .restart, phase := .done } := if_pos h

/-- Settles O44: the two commands by their edges; the rows and the codes as the tables give them. -/
theorem sessionRows : Obligations.SessionRows := by
  unfold Obligations.SessionRows
  refine ⟨fun s h => ⟨fun he => ?_, fun he => ?_, fun he => ?_, fun he => ?_, rfl, rfl, rfl, rfl, rfl⟩, rfl, rfl⟩
  · exact congrArg Host.Outcome.next (reloadSession_of_edge he)
  · exact congrArg Host.Outcome.next (reloadSession_of_no_edge he)
  · exact congrArg Host.Outcome.next (restartSession_of_edge he)
  · exact congrArg Host.Outcome.next (restartSession_of_no_edge he)

end Sys2Proof.Machine
end

section
/-! The edge detectors: one sample, a sequence of samples, and the samples and the frame of CONTROL. -/

namespace Sys2Proof.Machine

/-! ## One sample (R130) -/

/-- EDGE.SAMPLE is the detector's two outputs and its new previous value. -/
theorem exec_edgeSample (k : Fin 9) (c : Bool) (s : State) :
    exec (.edgeSample k c) s = .next (sampleEdge k c s) := rfl

/-- The outputs of a sample are those of its detector, for the value held before and the value sampled. -/
@[simp] theorem sampleEdge_edges_same (k : Fin 9) (c : Bool) (s : State) :
    (sampleEdge k c s).work.edges[k.val] = edgeOutputs s.ed[k.val] c := by simp [sampleEdge]

/-- The two outputs exclude one another. -/
theorem edgeOutputs_exclusive (previous current : Bool) :
    ¬((edgeOutputs previous current).rise = true ∧ (edgeOutputs previous current).fall = true) := by
  cases current <;> simp [edgeOutputs]

/-- Settles O22: the operation is its two outputs and the store of the sample. -/
theorem edgeSampleOutputs : Obligations.EdgeSampleOutputs := by
  unfold Obligations.EdgeSampleOutputs
  intro k current s
  exact exec_edgeSample k current s

/-! ## A sequence of samples (R135) -/

/-- A detector compares each sample with the one before it, the first with the value it held. -/
theorem edgesOf_eq_zipWith (k : Fin 9) (samples : List Bool) (s : State) :
    edgesOf k samples s = List.zipWith edgeOutputs (s.ed[k] :: samples) samples := by
  induction samples generalizing s with
  | nil => rfl
  | cons c rest ih => simp [edgesOf, exec_edgeSample, ih]

theorem countP_rise_zipWith (previous : Bool) (samples : List Bool) :
    (List.zipWith edgeOutputs (previous :: samples) samples).countP Edge.rise = risesIn previous samples := by
  induction samples generalizing previous with
  | nil => rfl
  | cons c rest ih =>
    rw [List.zipWith_cons_cons, List.countP_cons, ih, risesIn, Nat.add_comm]
    simp [edgeOutputs, and_comm]

theorem countP_fall_zipWith (previous : Bool) (samples : List Bool) :
    (List.zipWith edgeOutputs (previous :: samples) samples).countP Edge.fall = fallsIn previous samples := by
  induction samples generalizing previous with
  | nil => rfl
  | cons c rest ih =>
    rw [List.zipWith_cons_cons, List.countP_cons, ih, fallsIn, Nat.add_comm]
    simp [edgeOutputs, and_comm]

/-- The outputs at sample `j` are those of the sample and of the value before it. -/
theorem getElem?_zipWith_edgeOutputs (previous : Bool) {samples : List Bool} {j : Nat} (hj : j < samples.length) :
    (List.zipWith edgeOutputs (previous :: samples) samples)[j]? =
      some (edgeOutputs ((previous :: samples).getD j false) (samples.getD j false)) := by
  have hprev : j < (previous :: samples).length := Nat.lt_succ_of_lt hj
  simp only [List.getElem?_zipWith, List.getD_eq_getElem?_getD, List.getElem?_eq_getElem hj,
    List.getElem?_eq_getElem hprev, Option.getD_some]

/-- Settles O23: the outputs are those of each sample with the one before it, so they are read off at each place and
counted by induction on the samples. -/
theorem edgesFireOncePerTransition : Obligations.EdgesFireOncePerTransition := by
  unfold Obligations.EdgesFireOncePerTransition
  intro k samples s
  dsimp only
  rw [edgesOf_eq_zipWith]
  refine ⟨by simp, fun j hj => ?_, countP_rise_zipWith _ _, countP_fall_zipWith _ _, fun e he => ?_⟩
  · rw [List.getElem?_map, List.getElem?_map, getElem?_zipWith_edgeOutputs _ hj]
    exact ⟨rfl, rfl⟩
  · obtain ⟨j, hj, rfl⟩ := List.getElem_of_mem he
    rw [List.getElem_zipWith]
    exact edgeOutputs_exclusive _ _

/-! ## The samples of CONTROL (R132, R242, R283) -/

/-- The mailbox read of CONTROL changes the mailbox where a snapshot landed, the activity buffer and the iteration's
values, nothing else (R71, R72; log 19). -/
theorem landMidTake_readMailbox_frame (s : State) :
    landMidTake (readMailbox s) =
      { s with
        snap := (landMidTake (readMailbox s)).snap, snapReady := (landMidTake (readMailbox s)).snapReady
        midTake := (landMidTake (readMailbox s)).midTake, actBuf := (landMidTake (readMailbox s)).actBuf
        work := (landMidTake (readMailbox s)).work } := by
  unfold landMidTake; split <;> rfl

/-- Settles O49: CONTROL's body holds the samples and has its frame, and the mailbox read before it touches no switch
field and no detector. -/
theorem controlConsumesEveryEdge : Obligations.ControlConsumesEveryEdge := by
  unfold Obligations.ControlConsumesEveryEdge
  intro s t h
  obtain ⟨-, hbody⟩ := (inSession_eq_next s t _).1 h
  obtain ⟨hsampled, hframe⟩ := controlBody_frame hbody
  constructor
  · simpa using hsampled
  · rw [hframe, landMidTake_readMailbox_frame]

end Sys2Proof.Machine
end

section
/-! The rotary decoders: one ROT.ADD_DELTA, a sequence of them, and the phases that use what was decoded. -/

namespace Sys2Proof.Machine

/-! ## One ROT.ADD_DELTA (R141) -/

/-- The quadrature state as the number `(a << 1) | b` (R108). -/
theorem quadState_eq_ofNat (a b : Bool) : quadState a b = BitVec.ofNat 2 (2 * a.toNat + b.toNat) := by
  revert a b; decide

/-- The transition table is one place on or back in the clockwise cycle (R109 to R111, R142). -/
theorem quadDelta_eq_grayStep (old new : BitVec 2) : quadDelta old new = grayStep old new := by
  revert old new; decide

theorem decoderOf_withDecoder (n : RotaryId) (rot : Rotary) (s : State) : decoderOf n (withDecoder n rot s) = rot := by
  cases n <;> rfl

theorem exec_rotAddDelta (n : RotaryId) (a b : Bool) (s : State) :
    exec (.rotAddDelta n a b) s = .next (addDelta n a b s) := rfl

/-- ROT.ADD_DELTA steps its own decoder and leaves the delta it looked up; nothing else changes. -/
theorem addDelta_eq (n : RotaryId) (a b : Bool) (s : State) :
    addDelta n a b s =
      withDecoder n (rotaryStep (positionsOf n) (decoderOf n s) (quadState a b))
        { s with work.delta := quadDelta (decoderOf n s).lastState (quadState a b) } := by
  cases n <;> rfl

theorem decoderOf_addDelta (n : RotaryId) (a b : Bool) (s : State) :
    decoderOf n (addDelta n a b s) = rotaryStep (positionsOf n) (decoderOf n s) (quadState a b) := by
  rw [addDelta_eq, decoderOf_withDecoder]

/-- Settles O19: the operation is one step of its decoder, with the table read as places in the clockwise cycle. -/
theorem addDeltaFollowsThePseudocode : Obligations.AddDeltaFollowsThePseudocode := by
  unfold Obligations.AddDeltaFollowsThePseudocode
  intro n a b s
  dsimp only
  rw [exec_rotAddDelta, addDelta_eq, rotaryStep_eq, quadDelta_eq_grayStep, quadState_eq_ofNat]

/-- The position moves on where the accumulator reaches 4 (R143). -/
theorem rotaryStep_of_reached_up (m : Nat) {rot : Rotary} {q : BitVec 2} (h : 4 ≤ rot.acc + grayStep rot.lastState q) :
    rotaryStep m rot q = { lastState := q, acc := 0, position := (rot.position + 1) % m } := by
  rw [rotaryStep_eq, quadDelta_eq_grayStep, if_pos h]

/-- The position moves back where the accumulator reaches -4 (R143). -/
theorem rotaryStep_of_reached_down (m : Nat) {rot : Rotary} {q : BitVec 2}
    (h : rot.acc + grayStep rot.lastState q ≤ -4) :
    rotaryStep m rot q = { lastState := q, acc := 0, position := (rot.position + m - 1) % m } := by
  rw [rotaryStep_eq, quadDelta_eq_grayStep, if_neg (by omega), if_pos h]

/-- Between the thresholds the position stays and the accumulator adds up. -/
theorem rotaryStep_of_below (m : Nat) {rot : Rotary} {q : BitVec 2} (hlow : -4 < rot.acc + grayStep rot.lastState q)
    (hhigh : rot.acc + grayStep rot.lastState q < 4) :
    rotaryStep m rot q = { lastState := q, acc := rot.acc + grayStep rot.lastState q, position := rot.position } := by
  rw [rotaryStep_eq, quadDelta_eq_grayStep, if_neg (by omega), if_neg (by omega)]

/-! ## A sequence of inputs -/

/-- The decoder with modulus `m` after one step for each input of a list. -/
def feedDecoder (m : Nat) (rot : Rotary) (inputs : List (Bool × Bool)) : Rotary :=
  inputs.foldl (fun rot x => rotaryStep m rot (quadState x.1 x.2)) rot

@[simp] theorem feedDecoder_nil (m : Nat) (rot : Rotary) : feedDecoder m rot [] = rot := rfl

@[simp] theorem feedDecoder_cons (m : Nat) (rot : Rotary) (x : Bool × Bool) (rest : List (Bool × Bool)) :
    feedDecoder m rot (x :: rest) = feedDecoder m (rotaryStep m rot (quadState x.1 x.2)) rest := rfl

theorem turns_zero (next : Bool × Bool → Bool × Bool) (q : Bool × Bool) : turns next 0 q = [] := rfl

theorem turns_succ (next : Bool × Bool → Bool × Bool) (k : Nat) (q : Bool × Bool) :
    turns next (k + 1) q = next q :: turns next k (next q) := rfl

theorem travel_cons (q : BitVec 2) (x : Bool × Bool) (rest : List (Bool × Bool)) :
    travel q (x :: rest) = grayStep q (quadState x.1 x.2) + travel (quadState x.1 x.2) rest := rfl

/-- Feeding a list of inputs always completes, and its decoder has taken one step for each. -/
theorem runAll_feedAll (n : RotaryId) (inputs : List (Bool × Bool)) (s : State) :
    ∃ t, runAll (feedAll n inputs) s = .next t ∧ decoderOf n t = feedDecoder (positionsOf n) (decoderOf n s) inputs := by
  induction inputs generalizing s with
  | nil => exact ⟨s, rfl, rfl⟩
  | cons x rest ih =>
    obtain ⟨t, hrun, hrot⟩ := ih (addDelta n x.1 x.2 s)
    exact ⟨t, hrun, by rw [hrot, decoderOf_addDelta, feedDecoder_cons]⟩

/-! ## Four quarter-steps (R150) -/

theorem grayStep_clockwise (q : Bool × Bool) :
    grayStep (quadState q.1 q.2) (quadState (clockwise q).1 (clockwise q).2) = 1 := by
  revert q; decide

theorem grayStep_counterClockwise (q : Bool × Bool) :
    grayStep (quadState q.1 q.2) (quadState (counterClockwise q).1 (counterClockwise q).2) = -1 := by
  revert q; decide

theorem clockwise_four (q : Bool × Bool) : clockwise (clockwise (clockwise (clockwise q))) = q := by
  revert q; decide

theorem counterClockwise_four (q : Bool × Bool) :
    counterClockwise (counterClockwise (counterClockwise (counterClockwise q))) = q := by
  revert q; decide

/-- Four clockwise quarter-steps reach the threshold with the last. -/
theorem feedDecoder_clockwise_four (m p : Nat) (q : Bool × Bool) :
    feedDecoder m ⟨quadState q.1 q.2, 0, p⟩ (turns clockwise 4 q) = ⟨quadState q.1 q.2, 0, (p + 1) % m⟩ := by
  have hlast := grayStep_clockwise (clockwise (clockwise (clockwise q)))
  rw [clockwise_four] at hlast
  simp [turns_zero, turns_succ, rotaryStep_eq, quadDelta_eq_grayStep, grayStep_clockwise, clockwise_four, hlast]

/-- Four counter-clockwise quarter-steps reach the negative threshold with the last. -/
theorem feedDecoder_counterClockwise_four (m p : Nat) (q : Bool × Bool) :
    feedDecoder m ⟨quadState q.1 q.2, 0, p⟩ (turns counterClockwise 4 q) =
      ⟨quadState q.1 q.2, 0, (p + m - 1) % m⟩ := by
  have hlast := grayStep_counterClockwise (counterClockwise (counterClockwise (counterClockwise q)))
  rw [counterClockwise_four] at hlast
  simp [turns_zero, turns_succ, rotaryStep_eq, quadDelta_eq_grayStep, grayStep_counterClockwise, counterClockwise_four,
    hlast]

/-- Turns that come back after four go through the same four again. -/
theorem turns_four_mul_succ {next : Bool × Bool → Bool × Bool} (hfour : ∀ q, next (next (next (next q))) = q)
    (k : Nat) (q : Bool × Bool) : turns next (4 * (k + 1)) q = turns next 4 q ++ turns next (4 * k) q := by
  simp [Nat.mul_succ, turns_zero, turns_succ, hfour]

/-- Where four turns bring the decoder back with its position moved by `c`, `4k` turns move it by `k * c`. -/
theorem feedDecoder_turns {m c : Nat} {next : Bool × Bool → Bool × Bool} {q : Bool × Bool}
    (hnext : ∀ q, next (next (next (next q))) = q)
    (hmove : ∀ p, feedDecoder m ⟨quadState q.1 q.2, 0, p⟩ (turns next 4 q) = ⟨quadState q.1 q.2, 0, (p + c) % m⟩)
    (k : Nat) {p : Nat} (hp : p < m) :
    feedDecoder m ⟨quadState q.1 q.2, 0, p⟩ (turns next (4 * k) q) = ⟨quadState q.1 q.2, 0, (p + k * c) % m⟩ := by
  induction k generalizing p with
  | zero => simp [turns_zero, Nat.mod_eq_of_lt hp]
  | succ k ih =>
    have happend (rot : Rotary) : feedDecoder m rot (turns next 4 q ++ turns next (4 * k) q) =
        feedDecoder m (feedDecoder m rot (turns next 4 q)) (turns next (4 * k) q) := List.foldl_append
    have hsum : p + c + k * c = p + (k + 1) * c := by rw [Nat.succ_mul]; omega
    rw [turns_four_mul_succ hnext, happend, hmove, ih (Nat.mod_lt _ (by omega)), Nat.mod_add_mod, hsum]

/-- Inputs that stay below the threshold add up in the accumulator and leave the position. -/
theorem feedDecoder_of_belowThreshold (m : Nat) {inputs : List (Bool × Bool)} {rot : Rotary}
    (h : belowThreshold rot.lastState rot.acc inputs) :
    (feedDecoder m rot inputs).position = rot.position ∧
      (feedDecoder m rot inputs).acc = rot.acc + travel rot.lastState inputs := by
  induction inputs generalizing rot with
  | nil => exact ⟨rfl, (Int.add_zero _).symm⟩
  | cons x rest ih =>
    obtain ⟨hlow, hhigh, hrest⟩ := h
    have hstep := rotaryStep_of_below m hlow hhigh
    rw [feedDecoder_cons, hstep, travel_cons, ← Int.add_assoc]
    exact ih (rot := ⟨_, _, rot.position⟩) hrest

theorem positionsOf_pos (n : RotaryId) : 0 < positionsOf n := by cases n <;> decide

/-- Settles O20: the run is its decoder's steps; four turns move one position, by induction `4k` move `k`. -/
theorem fourQuarterStepsMoveOnePosition : Obligations.FourQuarterStepsMoveOnePosition := by
  unfold Obligations.FourQuarterStepsMoveOnePosition
  intro n s
  refine ⟨fun q k hstate hacc hpos => ?turns, fun inputs hbelow => ?bounce⟩
  case turns =>
    have hold : decoderOf n s = ⟨quadState q.1 q.2, 0, (decoderOf n s).position⟩ := by rw [← hstate, ← hacc]
    have hm := positionsOf_pos n
    constructor
    · obtain ⟨t, hrun, hrot⟩ := runAll_feedAll n (turns clockwise (4 * k) q) s
      have hturns := feedDecoder_turns clockwise_four (feedDecoder_clockwise_four (positionsOf n) · q) k hpos
      rw [hold, hturns, Nat.mul_one, ← hstate] at hrot
      exact ⟨t, hrun, hrot⟩
    · obtain ⟨t, hrun, hrot⟩ := runAll_feedAll n (turns counterClockwise (4 * k) q) s
      have hback (p : Nat) := feedDecoder_counterClockwise_four (positionsOf n) p q
      simp only [Nat.add_sub_assoc hm] at hback
      rw [hold, feedDecoder_turns counterClockwise_four hback k hpos, ← hstate] at hrot
      exact ⟨t, hrun, hrot⟩
  case bounce =>
    obtain ⟨t, hrun, hrot⟩ := runAll_feedAll n inputs s
    exact ⟨t, hrun, hrot ▸ feedDecoder_of_belowThreshold (positionsOf n) hbelow⟩

/-! ## Polarity (R151) -/

theorem quadState_complement (a b : Bool) : quadState (!a) (!b) = ~~~quadState a b := by
  revert a b; decide

theorem grayStep_complement (old new : BitVec 2) : grayStep (~~~old) (~~~new) = grayStep old new := by
  revert old new; decide

theorem grayStep_exchange (p q : Bool × Bool) :
    grayStep (quadState p.2 p.1) (quadState q.2 q.1) = -grayStep (quadState p.1 p.2) (quadState q.1 q.2) := by
  revert p q; decide

/-- Two decoders that differ in nothing but complementary quadrature states. -/
structure Complementary (x y : Rotary) : Prop where
  lastState : y.lastState = ~~~x.lastState
  acc : y.acc = x.acc
  position : y.position = x.position

/-- Two decoders of `m` positions with exchanged quadrature states, opposite accumulators and opposite positions. -/
structure Mirrored (m : Nat) (x y : Rotary) : Prop where
  lastState : ∃ q : Bool × Bool, x.lastState = quadState q.1 q.2 ∧ y.lastState = quadState q.2 q.1
  acc : y.acc = -x.acc
  position : (y.position + x.position) % m = 0

/-- One step keeps complementary decoders so: the quarter-steps are the same. -/
theorem Complementary.step (m : Nat) {x y : Rotary} (h : Complementary x y) (i : Bool × Bool) :
    Complementary (rotaryStep m x (quadState i.1 i.2)) (rotaryStep m y (quadState (!i.1) (!i.2))) := by
  have hd : grayStep y.lastState (quadState (!i.1) (!i.2)) = grayStep x.lastState (quadState i.1 i.2) := by
    rw [h.lastState, quadState_complement, grayStep_complement]
  simp only [rotaryStep_eq, quadDelta_eq_grayStep, hd, h.acc, h.position]
  split_ifs <;> exact ⟨quadState_complement _ _, rfl, rfl⟩

/-- A position moved on and the opposite position moved back are opposite. -/
theorem opposite_moved {m p r : Nat} (hm : 0 < m) (h : (p + r) % m = 0) : ((p + m - 1) % m + (r + 1) % m) % m = 0 := by
  rw [← Nat.add_mod, show p + m - 1 + (r + 1) = p + r + m by omega, Nat.add_mod_right, h]

/-- One step keeps mirrored decoders so: where one reaches its threshold the other reaches the opposite one. -/
theorem Mirrored.step {m : Nat} (hm : 0 < m) {x y : Rotary} (h : Mirrored m x y) (i : Bool × Bool) :
    Mirrored m (rotaryStep m x (quadState i.1 i.2)) (rotaryStep m y (quadState i.2 i.1)) := by
  obtain ⟨⟨q, hx, hy⟩, hacc, hpos⟩ := h
  have hsum : y.acc + grayStep y.lastState (quadState i.2 i.1) =
      -(x.acc + grayStep x.lastState (quadState i.1 i.2)) := by
    rw [hx, hy, grayStep_exchange, hacc, Int.neg_add]
  by_cases hup : 4 ≤ x.acc + grayStep x.lastState (quadState i.1 i.2)
  · rw [rotaryStep_of_reached_up m hup, rotaryStep_of_reached_down m (by omega)]
    exact ⟨⟨i, rfl, rfl⟩, rfl, opposite_moved hm hpos⟩
  by_cases hdown : x.acc + grayStep x.lastState (quadState i.1 i.2) ≤ -4
  · rw [rotaryStep_of_reached_down m hdown, rotaryStep_of_reached_up m (by omega)]
    refine ⟨⟨i, rfl, rfl⟩, rfl, ?_⟩
    rw [Nat.add_comm] at hpos ⊢
    exact opposite_moved hm hpos
  · rw [rotaryStep_of_below m (by omega) (by omega), rotaryStep_of_below m (by omega) (by omega)]
    exact ⟨⟨i, rfl, rfl⟩, hsum, hpos⟩

/-- A relation that every step keeps, on the inputs of one decoder and their images on the other, every sequence
keeps. -/
theorem runAll_feedAll_keeps {n : RotaryId} {R : Rotary → Rotary → Prop} {f : Bool × Bool → Bool × Bool}
    (hstep : ∀ {x y : Rotary}, R x y → ∀ i, R (rotaryStep (positionsOf n) x (quadState i.1 i.2))
      (rotaryStep (positionsOf n) y (quadState (f i).1 (f i).2)))
    (inputs : List (Bool × Bool)) {s u : State} (h : R (decoderOf n s) (decoderOf n u)) :
    ∃ t v, runAll (feedAll n inputs) s = .next t ∧ runAll (feedAll n (inputs.map f)) u = .next v ∧
      R (decoderOf n t) (decoderOf n v) := by
  have hfeed {x y : Rotary} (h : R x y) :
      R (feedDecoder (positionsOf n) x inputs) (feedDecoder (positionsOf n) y (inputs.map f)) := by
    induction inputs generalizing x y with
    | nil => exact h
    | cons i rest ih => exact ih (hstep h i)
  obtain ⟨t, hrun, ht⟩ := runAll_feedAll n inputs s
  obtain ⟨v, hrun', hv⟩ := runAll_feedAll n (inputs.map f) u
  exact ⟨t, v, hrun, hrun', ht ▸ hv ▸ hfeed h⟩

/-- Settles O21: both relations are kept by every step. -/
theorem rotaryPolarity : Obligations.RotaryPolarity := by
  unfold Obligations.RotaryPolarity
  refine fun n inputs s u => ⟨fun hstate hacc hpos => ?complement, fun q hs hu hacc hpos => ?exchange⟩
  case complement =>
    obtain ⟨t, v, hrun, hrun', h⟩ := runAll_feedAll_keeps (R := Complementary) (f := fun q => (!q.1, !q.2))
      (Complementary.step (positionsOf n)) inputs ⟨hstate, hacc, hpos⟩
    exact ⟨t, v, hrun, hrun', h.lastState, h.acc, h.position⟩
  case exchange =>
    obtain ⟨t, v, hrun, hrun', h⟩ := runAll_feedAll_keeps (R := Mirrored (positionsOf n)) (f := fun q => (q.2, q.1))
      (Mirrored.step (positionsOf_pos n)) inputs ⟨⟨q, hs, hu⟩, hacc, hpos⟩
    exact ⟨t, v, hrun, hrun', h.lastState, h.acc, h.position⟩

/-! ## P_DECODE, P_FEED and P_ENCODE (R147, R148, R169, R182, R285) -/

theorem exec_phaseDecode {s : State} (h : s.phase ≠ .done) : exec .phaseDecode s = .next (decodePhase s) :=
  inIteration_of_active s _ h

theorem exec_phaseFeed {s : State} (h : s.phase ≠ .done) : exec .phaseFeed s = .next (feedPhase s) :=
  inIteration_of_active s _ h

theorem exec_phaseEncode {s : State} (h : s.phase ≠ .done) : exec .phaseEncode s = .next (encodePhase s) :=
  inIteration_of_active s _ h

/-- Settles O15: each phase is its operations in its phase, then the fields of PanelState it copies. -/
theorem panelPhases : Obligations.PanelPhases := by
  unfold Obligations.PanelPhases
  intro s h
  refine ⟨⟨decodeMatrix s.work.raw { s with phase := .decode }, rfl, exec_phaseDecode h⟩,
    ⟨_, _, exec_rotAddDelta .rot1 _ _ _, exec_rotAddDelta .rot2 _ _ _, exec_phaseFeed h⟩,
    ⟨encodePanel (shownActivity s) { s with phase := .encode }, rfl, exec_phaseEncode h⟩⟩

end Sys2Proof.Machine
end

section
/-! SCAN and DRIVE where a line operation fails: what they record and what they leave alone. -/

namespace Sys2Proof.Machine

/-! ## P_SCAN and P_DRIVE are SCAN and DRIVE in their phase (R280, R285) -/

theorem exec_phaseScan {s : State} (h : s.phase ≠ .done) :
    exec .phaseScan s = .next (scanMatrix { s with phase := .scan }) :=
  inIteration_of_active s _ h

theorem exec_phaseDrive {s : State} (h : s.phase ≠ .done) :
    exec .phaseDrive s = .next (driveGrid s.work.grid { s with phase := .drive }) :=
  inIteration_of_active s _ h

/-! ## The failing branch (R166, R199, R301) -/

/-- Settles O17: the failing branch of SCAN and of DRIVE, run alone and in its phase; the levels and the index left are
the free values of the state. -/
theorem failedScanAndDrive : Obligations.FailedScanAndDrive := by
  unfold Obligations.FailedScanAndDrive
  intro s
  constructor
  case left =>
    intro hfails
    have hbranch : ¬ s.ioOkScan = true := by simp [hfails]
    refine ⟨Config.freePorts s.free, Config.freeScanRow s.free, ?alone, fun hactive => ?inPhase⟩
    case alone => exact congrArg Host.Outcome.next ((scanMatrix_eq s).trans (if_neg hbranch))
    case inPhase =>
      exact (exec_phaseScan hactive).trans (congrArg Host.Outcome.next ((scanMatrix_eq _).trans (if_neg hbranch)))
  case right =>
    intro hfails
    have hbranch : ¬ s.ioOkDrive = true := by simp [hfails]
    refine ⟨Config.freePorts s.free, Config.freeLedRow s.free, fun grid => ?alone, fun hactive => ?inPhase⟩
    case alone => exact congrArg Host.Outcome.next ((driveGrid_eq grid s).trans (if_neg hbranch))
    case inPhase =>
      exact (exec_phaseDrive hactive).trans (congrArg Host.Outcome.next ((driveGrid_eq _ _).trans (if_neg hbranch)))

end Sys2Proof.Machine
end

section
/-! ENCODE and DRIVE: one lamp lit for each rotary switch, the rows of format LED run one after the other, and what a
DRIVE does on the lines. -/

namespace Sys2Proof.Machine

/-! ## One lamp for each rotary switch (R104, R105, R183) -/

theorem countP_range_eq_one {n k : Nat} (hk : k < n) : (List.range n).countP (fun p => decide (k = p)) = 1 :=
  (List.countP_congr fun _ _ => decide_eq_true_iff.trans (eq_comm.trans beq_iff_eq.symm)).trans
    (List.count_eq_one_of_mem List.nodup_range (List.mem_range.2 hk))

/-- The lamps of `n + n` positions, the first `n` in one row and the others in the same columns of another: exactly one
is lit. -/
theorem oneLampLit_of_halves {n first pos : Nat} {low high : Columns} (hpos : pos < n + n)
    (hlamps : ∀ p, p < n → low.getLsbD (first + p) = decide (pos = p) ∧
      high.getLsbD (first + p) = decide (pos = n + p)) :
    ((List.range n).map (first + ·)).countP low.getLsbD + ((List.range n).map (first + ·)).countP high.getLsbD = 1 := by
  have hlow : ((List.range n).map (first + ·)).countP low.getLsbD =
      (List.range n).countP (fun p => decide (pos = p)) := by
    rw [List.countP_map]
    exact List.countP_congr fun p hp => by simp [(hlamps p (List.mem_range.1 hp)).1]
  have hhigh : ((List.range n).map (first + ·)).countP high.getLsbD =
      ((List.range n).map (n + ·)).countP (fun p => decide (pos = p)) := by
    rw [List.countP_map, List.countP_map]
    exact List.countP_congr fun p hp => by simp [(hlamps p (List.mem_range.1 hp)).2]
  rw [hlow, hhigh, ← List.countP_append, ← List.range_add]
  exact countP_range_eq_one hpos

/-- Settles O33: the rotary cells of `encodePlacesEveryCell` are the lamps of all positions of a switch, in two halves. -/
theorem encodeOneHot : Obligations.EncodeOneHot := by
  unfold Obligations.EncodeOneHot
  intro act s
  obtain ⟨g, hexec, -, -, -, -, -, -, -, -, -, hrotary1, hrotary2, -⟩ := encodePlacesEveryCell act s
  exact ⟨g, hexec, oneLampLit_of_halves (n := 4) s.ps.r1Position.isLt hrotary1,
    oneLampLit_of_halves (n := 2) s.ps.r2Position.isLt hrotary2⟩

/-! ## The rows of format LED one after the other (R181) -/

theorem ledGrid_row_setRow (g : LedGrid) (r r' : Fin Config.nLedRow) (v : Columns) :
    (g.setRow r v).row r' = if r' = r then v else g.row r' := by
  fin_cases r <;> fin_cases r' <;> rfl

theorem ledGrid_ext {g g' : LedGrid} (h : ∀ r, g.row r = g'.row r) : g = g' := by
  cases g; cases g'
  rw [LedGrid.mk.injEq]
  exact ⟨h 0, h 1, h 2, h 3, h 4, h 5⟩

theorem encodeGrid_row (ps : PanelState) (act : Option Activity) (r : Fin Config.nLedRow) :
    (encodeGrid ps act).row r = ledRowWord ps act r := by
  fin_cases r <;> rfl

/-- The cell an LED-grid code word names (R98). -/
def ledWordCell (w : Nat) : Fin Config.nLedRow × Nat := (ledWordRow w, w % 16)

/-- The grid with the cell `x` written from its source. -/
def lightCell (ps : PanelState) (act : Option Activity) (g : LedGrid) (x : Fin Config.nLedRow × Nat) : LedGrid :=
  g.setRow x.1 (setBit (g.row x.1) x.2 (ledCell ps act x.1 x.2))

/-- Rows of format LED one after the other write the grid only, each the cell its word names. -/
theorem foldl_encodeCell (words : List Nat) (s : State) :
    words.foldl (fun s w => encodeCell (ledWordRow w) (w % 16) s) s =
      { s with work.grid := (words.map ledWordCell).foldl (lightCell s.ps (shownActivity s)) s.work.grid } := by
  induction words generalizing s with
  | nil => rfl
  | cons w rest ih => exact ih (encodeCell (ledWordRow w) (w % 16) s)

theorem getLsbD_lightCell (ps : PanelState) (act : Option Activity) (g : LedGrid) (x : Fin Config.nLedRow × Nat)
    (r : Fin Config.nLedRow) {c : Nat} (hc : c < Config.nCol) :
    ((lightCell ps act g x).row r).getLsbD c = if (r, c) = x then ledCell ps act r c else (g.row r).getLsbD c := by
  obtain ⟨r', c'⟩ := x
  rw [lightCell, ledGrid_row_setRow]
  by_cases hr : r = r'
  · subst hr
    rw [if_pos rfl, getLsbD_setBit]
    rcases eq_or_ne c c' with rfl | hcol
    · rw [if_pos ⟨rfl, hc⟩, if_pos rfl]
    · simp [hcol]
  · simp [hr]

/-- Writing cells one after the other: a cell in the list shows its source, the others stay. -/
theorem getLsbD_foldl_lightCell (ps : PanelState) (act : Option Activity) (cells : List (Fin Config.nLedRow × Nat))
    (g : LedGrid) (r : Fin Config.nLedRow) {c : Nat} (hc : c < Config.nCol) :
    ((cells.foldl (lightCell ps act) g).row r).getLsbD c =
      if (r, c) ∈ cells then ledCell ps act r c else (g.row r).getLsbD c := by
  induction cells generalizing g with
  | nil => simp
  | cons x rest ih =>
    rw [List.foldl_cons, ih, getLsbD_lightCell ps act g x r hc]
    by_cases hrest : (r, c) ∈ rest <;> simp [hrest]

/-- The code words of format LED name every cell of the grid (R98 to R106). -/
theorem ledTable_names_every_cell (r : Fin Config.nLedRow) (c : Fin Config.nCol) :
    (r, c.val) ∈ (ledTable.map Prod.fst).map ledWordCell := by
  revert r c; decide

/-- The cells of all 72 rows make the grid ENCODE returns, whatever the grid was (R181). -/
theorem foldl_lightCell_ledTable (ps : PanelState) (act : Option Activity) (g : LedGrid) :
    ((ledTable.map Prod.fst).map ledWordCell).foldl (lightCell ps act) g = encodeGrid ps act :=
  ledGrid_ext fun r => BitVec.eq_of_getLsbD_eq fun c hc => by
    rw [getLsbD_foldl_lightCell ps act _ g r hc, if_pos (ledTable_names_every_cell r ⟨c, hc⟩), encodeGrid_row,
      ledRowWord_getLsbD ps act r hc]

/-- Settles O34: the rows are cells lit one after the other. -/
theorem encodeEqualsItsRows : Obligations.EncodeEqualsItsRows := by
  unfold Obligations.EncodeEqualsItsRows
  intro s
  have hrun := runAll_table (table := ledTable) (f := fun w => encodeCell (ledWordRow w) (w % 16))
    (fun row hrow => exec_of_ledWord (encode_of_mem_rowsOf (f := .led) hrow)) s
  rw [ledRows, hrun, foldl_encodeCell, foldl_lightCell_ledTable]
  rfl

/-! ## DRIVE (R190, R195, R196, R285) -/

/-- Settles O35: DRIVE's branch of `driveGrid_eq` where the line operations succeed, alone and in its phase; the moments
by the lemmas about `driveEvents`. -/
theorem driveSequence : Obligations.DriveSequence := by
  unfold Obligations.DriveSequence
  intro s hok
  refine ⟨fun g => ?alone, fun hactive => ?inPhase, fun g => ⟨?blanking, fun p hp => ?oneRow⟩⟩
  case alone => exact congrArg Host.Outcome.next ((driveGrid_eq g s).trans (if_pos hok))
  case inPhase =>
    exact (exec_phaseDrive hactive).trans (congrArg Host.Outcome.next ((driveGrid_eq _ _).trans (if_pos hok)))
  case blanking => exact driveEvents_blankingKept s.ports false g
  case oneRow => exact (driveEvents_along s.ports g p hp).1

end Sys2Proof.Machine
end

section
/-! The console commands by their cases: the edge, the run state and the answer of the primitive each one calls. -/

namespace Sys2Proof.Machine

/-! ## Commands within a session (R210) -/

theorem exec_loadAddr {s : State} (h : s.phase ≠ .done) : exec .loadAddr s = .next (loadAddress s) :=
  inSession_of_active s _ h

theorem exec_exam {s : State} (h : s.phase ≠ .done) : exec .exam s = examineWord s := inSession_of_active s _ h

theorem exec_dep {s : State} (h : s.phase ≠ .done) : exec .dep s = depositWord s := inSession_of_active s _ h

theorem exec_cont (b : Bool) {s : State} (h : s.phase ≠ .done) : exec (.cont b) s = .next (continueStep s) :=
  inSession_of_active s _ h

theorem exec_halt {s : State} (h : s.phase ≠ .done) : exec .halt s = .next (haltCpu s) := inSession_of_active s _ h

theorem exec_enable {s : State} (h : s.phase ≠ .done) : exec .enable s = .next (enableCpu s) :=
  inSession_of_active s _ h

theorem exec_start {s : State} (h : s.phase ≠ .done) : exec .start s = startCpu s := inSession_of_active s _ h

theorem haltCpu_of_no_edge {s : State} (h : (edgeOf 5 s).fall = false) : haltCpu s = s := by
  simp [haltCpu, h]

/-! ## LOAD_ADDR (R212) -/

/-- Settles O38, by the edge and the run state. -/
theorem loadAddrLoadsSwitchRegister : Obligations.LoadAddrLoadsSwitchRegister := by
  unfold Obligations.LoadAddrLoadsSwitchRegister
  intro s hs
  rw [exec_loadAddr hs]
  refine ⟨fun hfall hhalted => ?_, fun hfall hruns => ?_, fun hfall => ?_⟩
  · rw [loadAddress, if_pos hfall, if_pos hhalted]
  · rw [loadAddress, if_pos hfall, if_neg (by simp [hruns])]
  · rw [loadAddress_of_no_edge hfall]

/-! ## Answers that return (R64 to R66) -/

/-- A read that is answered is not stuck. -/
theorem readStuck_of_answered {s : State} (h : readNow s ≠ .never) : readStuck s = false := by
  rw [Bool.eq_false_iff, Ne, readStuck_iff]
  rintro ⟨rest, hprepared⟩
  exact h (readNow_of_prepared hprepared)

/-- A write that is answered is not stuck. -/
theorem ackStuck_writes_of_answered {s : State} (h : writeNow s ≠ .never) : ackStuck s.answers.writes = false := by
  rw [Bool.eq_false_iff, Ne, ackStuck_iff]
  rintro ⟨rest, hprepared⟩
  exact h (writeNow_of_prepared hprepared)

/-- A register set that is answered is not stuck. -/
theorem ackStuck_setRegs_of_answered {s : State} (h : setRegNow s ≠ .never) :
    ackStuck s.answers.setRegs = false := by
  rw [Bool.eq_false_iff, Ne, ackStuck_iff]
  rintro ⟨rest, hprepared⟩
  exact h (setRegNow_of_prepared hprepared)

/-- The address arithmetic of EXAM and DEP is modulo 2 to the `W_ADDR` (R214, R218). -/
theorem address_succ (a : Addr) : a + 1 = BitVec.ofNat 22 ((a.toNat + 1) % 2 ^ 22) :=
  BitVec.eq_of_toNat_eq (by simp [BitVec.toNat_add, Config.wAddr])

/-! ## EXAM (R214, R216) -/

theorem examineWord_of_running {s : State} (hfall : (edgeOf 2 s).fall = true) (hruns : haltedNow s = false) :
    examineWord s = .next (afterHalted s) := by
  rw [examineWord, if_pos hfall, if_neg (by simp [hruns])]

theorem examineWord_of_answered {s : State} (hfall : (edgeOf 2 s).fall = true) (hhalted : haltedNow s = true)
    (hanswer : readNow (afterHalted s) ≠ .never) : examineWord s = .next (readAnswered (afterHalted s)) := by
  rw [examineWord, if_pos hfall, if_pos hhalted]
  exact if_neg (by simp [readStuck_of_answered hanswer])

theorem readAnswered_of_ok {s : State} {v : Word} (h : readNow s = .ok v) :
    readAnswered s = latchWord v (afterRead s.consoleAddress s) := by
  rw [readAnswered, h]

theorem readAnswered_of_failed {s : State} (h : readNow s = .failed) :
    readAnswered s = raise (.sim .exam) (afterRead s.consoleAddress s) := by
  rw [readAnswered, h]

/-- Settles O39, by the edge, the run state and the answer of the read. -/
theorem examReadsAndAdvances : Obligations.ExamReadsAndAdvances := by
  unfold Obligations.ExamReadsAndAdvances
  intro s hs
  rw [exec_exam hs]
  refine ⟨fun v hfall hhalted hok => ?_, fun hfall hhalted hfailed => ?_, examineWord_of_running,
    examineWord_of_no_edge⟩
  · rw [examineWord_of_answered hfall hhalted (by simp [hok]), readAnswered_of_ok hok, latchWord,
      afterRead_consoleAddress, afterHalted_consoleAddress, address_succ]
  · rw [examineWord_of_answered hfall hhalted (by simp [hfailed]), readAnswered_of_failed hfailed,
      afterHalted_consoleAddress]
    rfl

/-! ## DEP (R218, R220) -/

/-- The word DEP writes: the low `W_DATA` bits of the switch register (R220). -/
theorem depositedWord_eq (sr : SwitchReg) : sr.setWidth Config.wData = BitVec.ofNat 16 (sr.toNat % 2 ^ 16) :=
  BitVec.eq_of_toNat_eq (by simp [Config.wData])

theorem depositWord_of_running {s : State} (hfall : (edgeOf 3 s).fall = true) (hruns : haltedNow s = false) :
    depositWord s = .next (afterHalted s) := by
  rw [depositWord, if_pos hfall, if_neg (by simp [hruns])]

theorem depositWord_of_answered {s : State} (hfall : (edgeOf 3 s).fall = true) (hhalted : haltedNow s = true)
    (hanswer : writeNow (afterHalted s) ≠ .never) : depositWord s = .next (writeAnswered (afterHalted s)) := by
  rw [depositWord, if_pos hfall, if_pos hhalted]
  exact if_neg (by simp [ackStuck_writes_of_answered hanswer])

theorem writeAnswered_of_ok {s : State} (h : writeNow s = .ok) :
    writeAnswered s = latchWord (s.ps.switchState.setWidth Config.wData)
      (afterWrite s.consoleAddress (s.ps.switchState.setWidth Config.wData) s) := by
  rw [writeAnswered, h]

theorem writeAnswered_of_failed {s : State} (h : writeNow s = .failed) :
    writeAnswered s = raise (.sim .dep)
      (afterWrite s.consoleAddress (s.ps.switchState.setWidth Config.wData) s) := by
  rw [writeAnswered, h]

/-- Settles O40, by the edge, the run state and the answer of the write. -/
theorem depWritesAndAdvances : Obligations.DepWritesAndAdvances := by
  unfold Obligations.DepWritesAndAdvances
  intro s hs
  rw [exec_dep hs]
  refine ⟨fun hfall hhalted hok => ?_, fun hfall hhalted hfailed => ?_, depositWord_of_running,
    depositWord_of_no_edge⟩
  · rw [depositWord_of_answered hfall hhalted (by simp [hok]), writeAnswered_of_ok hok, latchWord,
      afterWrite_consoleAddress, afterHalted_consoleAddress, afterHalted_ps, depositedWord_eq, address_succ]
  · rw [depositWord_of_answered hfall hhalted (by simp [hfailed]), writeAnswered_of_failed hfailed,
      afterHalted_consoleAddress, afterHalted_ps, depositedWord_eq]
    rfl

/-! ## CONT and TEST (R224, R226, R236) -/

/-- Settles O41: neither command looks at more than its edge and the S_INST/S_BUS_CYCLE switch. -/
theorem contStepsAndTestDumps : Obligations.ContStepsAndTestDumps := by
  unfold Obligations.ContStepsAndTestDumps
  intro s b
  have htest : exec (.test b) s = .next (testDump s) := rfl
  refine ⟨fun hs => ⟨fun hfall => ?_, fun hfall => ?_⟩, fun hrise => ?_, fun hrise => ?_⟩
  · rw [exec_cont b hs, continueStep, if_pos hfall]
    simp [record]
  · rw [exec_cont b hs, continueStep_of_no_edge hfall]
  · rw [htest, testDump, if_pos hrise]
    rfl
  · rw [htest, testDump_of_no_edge hrise]

/-! ## HALT and ENABLE (R228, R230) -/

/-- Settles O42, by the edge and the run state. -/
theorem haltAndEnable : Obligations.HaltAndEnable := by
  unfold Obligations.HaltAndEnable
  intro s hs
  rw [exec_halt hs, exec_enable hs]
  refine ⟨fun hfall hruns => ?_, fun hfall hhalted => ?_, fun hfall => ?_, fun hrise hhalted => ?_,
    fun hrise hruns => ?_, fun hrise => ?_⟩
  · rw [haltCpu, if_pos hfall, if_neg (by simp [hruns])]
    rfl
  · rw [haltCpu, if_pos hfall, if_pos hhalted]
  · rw [haltCpu_of_no_edge hfall]
  · rw [enableCpu, if_pos hrise, if_pos hhalted]
    rfl
  · rw [enableCpu, if_pos hrise, if_neg (by simp [hruns])]
  · rw [enableCpu_of_no_edge hrise]

/-! ## START (R232, R233) -/

/-- START asks for a halted simulator: `START_REQUIRES_HALT` is set (R232). -/
theorem startCpu_of_running {s : State} (hfall : (edgeOf 6 s).fall = true) (hruns : haltedNow s = false) :
    startCpu s = .next (afterHalted s) := by
  rw [startCpu, if_pos hfall, if_neg (by simp [hruns, Config.startRequiresHalt])]

theorem startCpu_of_answered {s : State} (hfall : (edgeOf 6 s).fall = true) (hhalted : haltedNow s = true)
    (hanswer : setRegNow (afterHalted s) ≠ .never) : startCpu s = .next (setRegAnswered (afterHalted s)) := by
  rw [startCpu, if_pos hfall, if_pos (by simp [hhalted])]
  exact if_neg (by simp [ackStuck_setRegs_of_answered hanswer])

theorem setRegAnswered_of_ok {s : State} (h : setRegNow s = .ok) :
    setRegAnswered s = { simRun (afterSetReg s.consoleAddress s) with useDataLatched := false } := by
  rw [setRegAnswered, h]

theorem setRegAnswered_of_failed {s : State} (h : setRegNow s = .failed) :
    setRegAnswered s = raise (.sim .start) (afterSetReg s.consoleAddress s) := by
  rw [setRegAnswered, h]

/-- Settles O43, by the edge, the run state and the answer of the register set. -/
theorem startSetsPcAndRuns : Obligations.StartSetsPcAndRuns := by
  unfold Obligations.StartSetsPcAndRuns
  intro s hs
  rw [exec_start hs]
  refine ⟨fun hfall hhalted hok => ?_, fun hfall hhalted hfailed => ?_, startCpu_of_running, startCpu_of_no_edge⟩
  · rw [startCpu_of_answered hfall hhalted (by simp [hok]), setRegAnswered_of_ok hok, afterHalted_consoleAddress]
    rfl
  · rw [startCpu_of_answered hfall hhalted (by simp [hfailed]), setRegAnswered_of_failed hfailed,
      afterHalted_consoleAddress]
    rfl

end Sys2Proof.Machine
end

section
/-! CONTROL as its parts in the order of R283, and the session commands in it. -/

namespace Sys2Proof.Machine

/-! ## The session commands in CONTROL (R234, R235, R315) -/

/-- Everything CONTROL can do, by the two buttons: plain commands first; then RELOAD where r1_button rises, else RESTART
where r2_button does, else TEST and the derivations. -/
theorem controlLogic_cases {s t : State} (hs : s.phase ≠ .done) (h : controlLogic s = .next t) :
    ∃ a, PlainCommand (sampleAllEdges (landMidTake (readMailbox s))) a ∧
      (((edgeOutputs s.ed[7] s.ps.r1Button).rise = true ∧ t = endSession { a with sessionResult := .reload }) ∨
        ((edgeOutputs s.ed[7] s.ps.r1Button).rise = false ∧ (edgeOutputs s.ed[8] s.ps.r2Button).rise = true ∧
          t = endSession { a with sessionResult := .restart }) ∨
        ((edgeOutputs s.ed[7] s.ps.r1Button).rise = false ∧ (edgeOutputs s.ed[8] s.ps.r2Button).rise = false ∧
          ∃ S h, t = deriveAll S h (afterHalted (testDump a)))) := by
  obtain ⟨c, hc, hend⟩ := controlBody_cases h
  have h7 : edgeOf 7 (sampleAllEdges (landMidTake (readMailbox s))) = edgeOutputs s.ed[7] s.ps.r1Button := by
    rw [edgeOf_sampleAllEdges, landMidTake_ps, landMidTake_ed]; rfl
  have h8 : edgeOf 8 (sampleAllEdges (landMidTake (readMailbox s))) = edgeOutputs s.ed[8] s.ps.r2Button := by
    rw [edgeOf_sampleAllEdges, landMidTake_ps, landMidTake_ed]; rfl
  obtain ⟨a, ha, hcase⟩ := runCommands_cases hc
  rw [h7, h8] at hcase
  have hactive : a.phase ≠ .done := by rw [ha.phase, sampleAllEdges_eq]; simpa using hs
  refine ⟨a, ha, ?_⟩
  rcases hcase with ⟨hr1, rfl⟩ | ⟨-, hdone, -⟩ | ⟨hr1, hr2, -, rfl⟩ | ⟨hr1, hr2, -, rfl⟩
  · rcases hend with ⟨-, rfl⟩ | ⟨hgoes, -⟩
    · exact .inl ⟨hr1, rfl⟩
    · exact absurd rfl hgoes
  · exact absurd hdone hactive
  · rcases hend with ⟨-, rfl⟩ | ⟨hgoes, -⟩
    · exact .inr (.inl ⟨hr1, hr2, rfl⟩)
    · exact absurd rfl hgoes
  · rcases hend with ⟨hdone, -⟩ | ⟨-, rfl⟩
    · exact absurd ((testDump_plain a).phase.symm.trans hdone) hactive
    · exact .inr (.inr ⟨hr1, hr2, _, _, rfl⟩)

theorem edgeOutputs_rise_iff (previous current : Bool) :
    (edgeOutputs previous current).rise = true ↔ previous = false ∧ current = true := by
  simp [edgeOutputs, and_comm]

theorem edgeOutputs_rise_eq_false {previous current : Bool} (h : previous = true ∨ current = false) :
    (edgeOutputs previous current).rise = false := by
  rcases h with rfl | rfl <;> simp [edgeOutputs]

/-- The plain commands of CONTROL, after its mailbox read and its samples, keep what `s` held of the display and of the
session. -/
theorem plainCommands_keep {s a : State} (h : PlainCommand (sampleAllEdges (landMidTake (readMailbox s))) a) :
    a.ps = s.ps ∧ a.blinkActive = s.blinkActive ∧ a.phase = s.phase ∧ a.sessionResult = s.sessionResult := by
  refine ⟨?_, ?_, ?_, ?_⟩
  · rw [h.frame, sampleAllEdges_eq]; simp
  · rw [h.frame, sampleAllEdges_eq]; simp
  · rw [h.phase, sampleAllEdges_eq]; simp
  · rw [h.result, sampleAllEdges_eq]; simp

/-- Settles O51, by the cases of CONTROL: the edge of each button leaves one of them. -/
theorem reloadBeatsRestart : Obligations.ReloadBeatsRestart := by
  unfold Obligations.ReloadBeatsRestart
  intro s t h
  obtain ⟨hs, hcontrol⟩ := (inSession_eq_next s t _).1 h
  obtain ⟨a, ha, hcase⟩ := controlLogic_cases hs hcontrol
  obtain ⟨hps, hblink, hphase, hresult⟩ := plainCommands_keep ha
  rcases hcase with ⟨hr1, rfl⟩ | ⟨hr1, hr2, rfl⟩ | ⟨hr1, hr2, S, wasHalted, rfl⟩
  case inl =>
    have hno : ¬(s.ed[7] = true ∨ s.ps.r1Button = false) := fun hnot => by
      rw [edgeOutputs_rise_eq_false hnot] at hr1; cases hr1
    exact ⟨fun _ _ => ⟨rfl, rfl, hps, hblink⟩, fun hnot => absurd hnot hno, fun hnot => absurd hnot hno⟩
  case inr.inl =>
    refine ⟨fun hb hn => ?_, fun _ _ _ => ⟨rfl, rfl, hps, hblink⟩, fun _ hnot => ?_⟩
    · rw [(edgeOutputs_rise_iff _ _).2 ⟨hb, hn⟩] at hr1; cases hr1
    · rw [edgeOutputs_rise_eq_false hnot] at hr2; cases hr2
  case inr.inr =>
    refine ⟨fun hb hn => ?_, fun _ hb hn => ?_, fun _ _ => ?_⟩
    · rw [(edgeOutputs_rise_iff _ _).2 ⟨hb, hn⟩] at hr1; cases hr1
    · rw [(edgeOutputs_rise_iff _ _).2 ⟨hb, hn⟩] at hr2; cases hr2
    · have hplain := (testDump_plain a).trans (afterHalted_plain _)
      rw [deriveAll_eq]
      exact ⟨hplain.phase.trans hphase, hplain.result.trans hresult⟩

/-! ## The parts of CONTROL (R211, R250, R283) -/

/-- The commands of CONTROL up to and with RELOAD. -/
def commandsToReload (s : State) : Result :=
  andThen (examineWord (loadAddress s)) fun s =>
  andThen (depositWord s) fun s =>
  andThen (startCpu (enableCpu (haltCpu (continueStep s)))) fun s => .next (reloadSession s)

/-- The commands of CONTROL after RELOAD: RESTART and TEST, where the session goes on. -/
def commandsAfterReload (s : State) : State :=
  if s.phase = .done then s
  else if (restartSession s).phase = .done then restartSession s
  else testDump (restartSession s)

/-- The command phase is its commands up to RELOAD and those after it. -/
theorem runCommands_eq (s : State) :
    runCommands s = andThen (commandsToReload s) fun a => .next (commandsAfterReload a) := by
  unfold runCommands commandsToReload
  cases examineWord (loadAddress s) with
  | fault | refused => rfl
  | next x =>
    simp only [andThen_next]
    cases depositWord x with
    | fault | refused => rfl
    | next y =>
      simp only [andThen_next]
      cases startCpu (enableCpu (haltCpu (continueStep y))) with
      | fault | refused => rfl
      | next z => simp only [andThen_next, commandsAfterReload]; split_ifs <;> rfl

/-- In a session a plain command at the head of a list runs, and leaves the rest to a session that goes on. -/
theorem runAll_plainCommand {i : Instr} {rest : List Instr} {f g : State → Result}
    (hexec : ∀ s, exec i s = inSession s (f s)) (hplain : ∀ {s t}, f s = .next t → PlainCommand s t)
    (hrest : ∀ t, t.phase ≠ .done → runAll rest t = g t) (s : State) (hs : s.phase ≠ .done) :
    runAll (i :: rest) s = andThen (f s) g := by
  rw [runAll, hexec, inSession_of_active s _ hs]
  cases hf : f s with
  | fault | refused => rfl
  | next t => exact hrest t (by rw [(hplain hf).phase]; exact hs)

/-- A command that always answers is plain where its effect is. -/
theorem plain_of_next {f : State → State} (h : ∀ s, PlainCommand s (f s)) {s t : State}
    (ht : Host.Outcome.next (f s) = (.next t : Result)) : PlainCommand s t := by
  cases ht; exact h s

/-- The list of the commands up to RELOAD is their composition. -/
theorem runAll_commandsToReload {s : State} (hs : s.phase ≠ .done) :
    runAll [.loadAddr, .exam, .dep, .cont false, .halt, .enable, .start, .reload false] s = commandsToReload s := by
  have hstart := runAll_plainCommand (i := .start) (rest := [.reload false]) (fun _ => rfl) startCpu_plain
    (g := fun t => .next (reloadSession t)) (fun _ _ => rfl)
  have henable := runAll_plainCommand (i := .enable) (fun _ => rfl) (plain_of_next enableCpu_plain) hstart
  have hhalt := runAll_plainCommand (i := .halt) (fun _ => rfl) (plain_of_next haltCpu_plain) henable
  have hcont := runAll_plainCommand (i := .cont false) (fun _ => rfl) (plain_of_next continueStep_plain) hhalt
  have hdep := runAll_plainCommand (i := .dep) (fun _ => rfl) depositWord_plain hcont
  have hexam := runAll_plainCommand (i := .exam) (fun _ => rfl) examineWord_plain hdep
  exact runAll_plainCommand (i := .loadAddr) (fun _ => rfl) (plain_of_next loadAddress_plain) hexam s hs

/-- The samples with the values of PanelState, then the commands up to RELOAD. -/
theorem runAll_samplesAndCommands {s : State} (hs : s.phase ≠ .done) :
    runAll
      [.edgeSample 0 s.ps.swTest, .edgeSample 1 s.ps.swLoadAddr, .edgeSample 2 s.ps.swExam, .edgeSample 3 s.ps.swDep,
        .edgeSample 4 s.ps.swCont, .edgeSample 5 s.ps.swEnableHalt, .edgeSample 6 s.ps.swStart,
        .edgeSample 7 s.ps.r1Button, .edgeSample 8 s.ps.r2Button,
        .loadAddr, .exam, .dep, .cont false, .halt, .enable, .start, .reload false] s =
      commandsToReload (sampleAllEdges s) :=
  runAll_commandsToReload (s := sampleAllEdges s) (by rw [sampleAllEdges_eq]; exact hs)

theorem runAll_derivations (S : Snapshot) (h : Bool) (s : State) :
    runAll [.deriveKsu S, .deriveAddr S h, .deriveBlink h, .deriveData S h, .deriveRange S, .deriveParity,
      .deriveAux S h] s = .next (deriveAll S h s) := rfl

/-- CONTROL's body is its commands up to RELOAD; where the session goes on the later commands, and where it still goes
on the derivations. -/
theorem controlBody_eq (s : State) :
    controlBody s = andThen (commandsToReload (sampleAllEdges s)) fun a =>
      let c := commandsAfterReload a
      if c.phase = .done then .next c else .next (deriveAll c.work.snap (haltedNow c) (afterHalted c)) := by
  unfold controlBody
  rw [runCommands_eq]
  cases commandsToReload (sampleAllEdges s) <;> rfl

/-- The snapshot the derivations of CONTROL's body read is the one read before the commands. -/
theorem commandsAfterReload_snap {s a : State} (h : commandsToReload (sampleAllEdges s) = .next a) :
    (commandsAfterReload a).work.snap = s.work.snap := by
  have hrun : runCommands (sampleAllEdges s) = .next (commandsAfterReload a) := by
    rw [runCommands_eq, h, andThen_next]
  rw [runCommands_frame hrun, sampleAllEdges_eq]

theorem controlBody_of_fault {s : State} {f : Fault} (h : commandsToReload (sampleAllEdges s) = .fault f) :
    controlBody s = .fault f := by
  rw [controlBody_eq, h, andThen_fault]

/-- RELOAD ended the session. -/
theorem controlBody_of_reloaded {s a : State} (h : commandsToReload (sampleAllEdges s) = .next a)
    (hdone : a.phase = .done) : controlBody s = .next a := by
  have hend : commandsAfterReload a = a := if_pos hdone
  rw [controlBody_eq, h, andThen_next, hend]
  exact if_pos hdone

/-- RESTART ended the session. -/
theorem controlBody_of_restarted {s a : State} (h : commandsToReload (sampleAllEdges s) = .next a)
    (hgoes : a.phase ≠ .done) (hdone : (restartSession a).phase = .done) :
    controlBody s = .next (restartSession a) := by
  have hend : commandsAfterReload a = restartSession a := (if_neg hgoes).trans (if_pos hdone)
  rw [controlBody_eq, h, andThen_next, hend]
  exact if_pos hdone

/-- Neither button rose: TEST, one question, and the derivations on its answer. -/
theorem controlBody_of_derived {s a : State} (h : commandsToReload (sampleAllEdges s) = .next a)
    (hgoes : a.phase ≠ .done) (hgoes' : (restartSession a).phase ≠ .done) :
    controlBody s = .next (deriveAll s.work.snap (haltedNow (testDump (restartSession a)))
      (afterHalted (testDump (restartSession a)))) := by
  have hend : commandsAfterReload a = testDump (restartSession a) := (if_neg hgoes).trans (if_neg hgoes')
  have hon : (testDump (restartSession a)).phase ≠ .done := by rw [(testDump_plain _).phase]; exact hgoes'
  rw [controlBody_eq, h, andThen_next, ← commandsAfterReload_snap h, hend]
  exact if_neg hon

/-- The state the samples of CONTROL start from where no snapshot lands: the mailbox and the activity counts are read
(R71, R73, R283). -/
def withMailboxRead (s : State) : State := { s with work.snap := s.snap, actBuf := s.snap.act }

theorem controlLogic_alone {s : State} (h : s.midTake = none) : controlLogic s = controlBody (withMailboxRead s) := by
  simp [controlLogic, withMailboxRead, landMidTake, readMailbox, h, takenValues_none]

/-- Settles O48: the list is the samples and the commands up to RELOAD; what CONTROL does after it goes by where the
session ended. -/
theorem controlRunsItsParts : Obligations.ControlRunsItsParts := by
  unfold Obligations.ControlRunsItsParts
  intro s hs hmid
  have hcontrol : exec .control s = controlBody (withMailboxRead s) :=
    (inSession_of_active s _ hs).trans (controlLogic_alone hmid)
  have hfront := (runAll_samplesAndCommands (s := withMailboxRead s) hs).symm
  rw [hcontrol]
  exact ⟨fun f hf => controlBody_of_fault (hfront.trans hf),
    fun a ha hdone => controlBody_of_reloaded (hfront.trans ha) hdone,
    fun a ha hgoes => ⟨restartSession a, rfl, controlBody_of_restarted (hfront.trans ha) hgoes,
      fun hgoes' => ⟨testDump (restartSession a), rfl, controlBody_of_derived (hfront.trans ha) hgoes hgoes'⟩⟩⟩

end Sys2Proof.Machine
end

section
/-! The per-snapshot derivations one by one: the flags of PanelState, the displayed address and data, the blinkenlight
choice and REGSEL. -/

namespace Sys2Proof.Machine

/-! ## Mode flags (R112, R113, R252) -/

/-- Bits 15:14 of the PSW as a number (R112). -/
theorem pswMode_toNat (psw : RegWord) : (pswMode psw).toNat = psw.toNat / 2 ^ 14 := by
  have hlt : psw.toNat / 2 ^ 14 < 2 ^ 2 := by
    have : psw.toNat < 2 ^ 16 := psw.isLt
    omega
  calc (pswMode psw).toNat = psw.toNat >>> 14 % 2 ^ 2 := BitVec.extractLsb'_toNat 14 2 psw
    _ = psw.toNat / 2 ^ 14 % 2 ^ 2 := by rw [Nat.shiftRight_eq_div_pow]
    _ = psw.toNat / 2 ^ 14 := Nat.mod_eq_of_lt hlt

/-- The flag of mode `m` in the numbers of the PSW (R113, R252). -/
theorem modeFlag_eq_decide (psw : RegWord) (m : BitVec 2) :
    (!(psw == 0#16) && pswMode psw == m) = decide (psw.toNat ≠ 0 ∧ psw.toNat / 2 ^ 14 = m.toNat) := by
  have hzero : psw = 0#16 ↔ psw.toNat = 0 := BitVec.toNat_inj.symm
  have hmode : pswMode psw = m ↔ psw.toNat / 2 ^ 14 = m.toNat := by rw [← pswMode_toNat, BitVec.toNat_inj]
  rw [Bool.eq_iff_iff]
  simp only [Bool.and_eq_true, Bool.not_eq_true', beq_eq_false_iff_ne, beq_iff_eq, decide_eq_true_iff, ne_eq, hzero,
    hmode]

/-- Settles O24: each of the three flags by its mode number. -/
theorem deriveKsuModeFlags : Obligations.DeriveKsuModeFlags := by
  unfold Obligations.DeriveKsuModeFlags
  intro S s
  have hexec : exec (.deriveKsu S) s = .next { s with ps := ksuFlags s.ps S.psw } := rfl
  rw [hexec, ksuFlags_eq, modeFlag_eq_decide, modeFlag_eq_decide, modeFlag_eq_decide]
  rfl

/-! ## Address range (R262) -/

/-- Settles O28: the borders are those of the model; every PC lies in one range. -/
theorem deriveRangeExactlyOne : Obligations.DeriveRangeExactlyOne := by
  unfold Obligations.DeriveRangeExactlyOne
  intro S s
  have hmiddle : (decide (2 ^ 16 ≤ S.pc) && decide (S.pc < 2 ^ 18)) = decide (65536 ≤ S.pc ∧ S.pc < 262144) :=
    (Bool.decide_and _ _).symm
  refine ⟨deriveAddressRange S s, rfl, ?_, rangeFlags_count S.pc⟩
  rw [← hmiddle]
  rfl

/-! ## Parity (R264) -/

/-- The exclusive or of a slice tells whether an odd number of its bits are 1 (R12). -/
theorem xorReduce_eq_decide_odd (v : Word) (lo n : Nat) :
    xorReduce v lo n = decide ((List.range n).countP (fun i => v.getLsbD (lo + i)) % 2 = 1) := by
  induction n with
  | zero => rfl
  | succ n ih =>
    rw [xorReduce, ih, List.range_succ, List.countP_append, List.countP_singleton]
    cases v.getLsbD (lo + n) with
    | false => simp
    | true =>
      simp only [Bool.true_xor, if_true, ← decide_not, decide_eq_decide]
      omega

/-- DERIVE.PARITY with the blinkenlights out of use (R264). -/
theorem deriveParityFlags_of_noBlink {s : State} (h : s.blinkActive = false) :
    deriveParityFlags s =
      { s with ps := { s.ps with
                       flagParLow := xorReduce s.ps.data 0 8
                       flagParHigh := xorReduce s.ps.data 8 6 } } := by
  have hoff : ¬ s.blinkActive = true := by rw [h]; decide
  exact if_neg hoff

/-- Settles O29: the exclusive or is the parity of the count. -/
theorem deriveParityCountsBits : Obligations.DeriveParityCountsBits := by
  unfold Obligations.DeriveParityCountsBits
  intro s
  have hexec : exec .deriveParity s = .next (deriveParityFlags s) := rfl
  rw [hexec]
  refine ⟨fun hoff => ?_, fun hon => congrArg Host.Outcome.next (if_pos hon)⟩
  rw [deriveParityFlags_of_noBlink hoff, xorReduce_eq_decide_odd, xorReduce_eq_decide_odd]
  simp only [Nat.zero_add]

/-! ## The register selector (R260) -/

/-- Reducing a number below `2 ^ w` first does not change its `w`-bit word. -/
theorem ofNat_mod_two_pow (w n : Nat) : BitVec.ofNat w (n % 2 ^ w) = BitVec.ofNat w n :=
  BitVec.eq_of_toNat_eq (by simp)

/-- REGSEL with the selector as an index (R260). -/
theorem regSelect_ofFin (S : Snapshot) (k : Fin 8) :
    regSelect S (BitVec.ofFin k) = if k = 7 then BitVec.ofNat 16 (S.pc % 2 ^ 16) else S.r[k] := by
  have hseven : BitVec.ofFin k = 7#3 ↔ k = 7 := BitVec.toFin_inj.symm
  rw [regSelect_eq, ofNat_mod_two_pow]
  simp only [hseven]
  rfl

/-- Settles O25: the selector as an index. -/
theorem regselShowsRegister : Obligations.RegselShowsRegister := by
  unfold Obligations.RegselShowsRegister
  intro S k s
  rw [← regSelect_ofFin]
  rfl

/-! ## Address, blinkenlights and the underived flags (R254, R256, R266) -/

/-- The displayed address by the run state and the position of rotary 1 (R254). -/
theorem shownAddress_eq (S : Snapshot) (h : Bool) (s : State) :
    shownAddress S h s =
      if h = true ∨ s.ps.r1Position = 3#3 then s.consoleAddress else BitVec.ofNat 22 (S.pc % 2 ^ 22) := by
  rw [shownAddress, pc22_eq, ofNat_mod_two_pow]
  simp only [Bool.or_eq_true, beq_iff_eq]

/-- The blinkenlight choice as a condition (R256). -/
theorem shownBlink_eq_decide (h : Bool) (s : State) :
    shownBlink h s = decide (h = false ∧ s.ps.r1Position ≠ 3#3) := by
  rw [Bool.eq_iff_iff]
  simp only [shownBlink, Bool.and_eq_true, Bool.not_eq_true', bne_iff_ne, decide_eq_true_iff]

/-- Settles O26: the address and the choice by their conditions; the underived flags are the next free value. -/
theorem deriveAddressBlinkAux : Obligations.DeriveAddressBlinkAux := by
  unfold Obligations.DeriveAddressBlinkAux
  intro S h s
  refine ⟨?address, ?blink, Config.auxStatus s.free, rfl⟩
  case address => rw [← shownAddress_eq]; exact congrArg Host.Outcome.next (deriveAddress_eq S h s)
  case blink => rw [← shownBlink_eq_decide]; rfl

/-! ## The displayed data (R258) -/

/-- The low three bits of the switch register as a register index (R258). -/
theorem setWidth_three_eq_ofFin (v : SwitchReg) : v.setWidth 3 = BitVec.ofFin (Fin.ofNat 8 v.toNat) := rfl

/-- The four cases of DERIVE.DATA in their order (R258). -/
theorem shownData_eq (S : Snapshot) (h : Bool) (s : State) :
    let k : Fin 8 := Fin.ofNat 8 s.ps.switchState.toNat
    shownData S h s =
      if s.ps.r2Position = 3#2 then (if k = 7 then BitVec.ofNat 16 (S.pc % 2 ^ 16) else S.r[k])
      else if s.useDataLatched = true then s.dataLatched
      else if h = true then BitVec.ofNat 16 (s.ps.switchState.toNat % 2 ^ 16)
      else s.ps.data := by
  intro k
  rw [← regSelect_ofFin, ofNat_mod_two_pow]
  rfl

/-- Settles O27: the data DERIVE.DATA leaves, case by case. -/
theorem deriveDataFourCases : Obligations.DeriveDataFourCases := by
  unfold Obligations.DeriveDataFourCases
  intro S h s k
  rw [← shownData_eq]
  exact congrArg Host.Outcome.next (deriveDisplayedData_eq S h s)

end Sys2Proof.Machine
end

section
/-! The iteration: its halt check, its stop check, its phases one after the other, that it completes, and what it does
without a snapshot. -/

namespace Sys2Proof.Machine

/-! ## The operations of the sequencer within a session (R280 to R286) -/

theorem exec_haltchk (scanOk : Bool) {s : State} (h : s.phase ≠ .done) :
    exec (.haltchk scanOk) s = .next (haltCheck scanOk s) := inSession_of_active s _ h

theorem exec_control {s : State} (h : s.phase ≠ .done) : exec .control s = controlLogic s := inSession_of_active s _ h

theorem exec_phaseStopchk {s : State} (h : s.phase ≠ .done) : exec .phaseStopchk s = .next (stopPhase s) :=
  inIteration_of_active s _ h

theorem exec_phaseControl {s : State} (h : s.phase ≠ .done) : exec .phaseControl s = controlPhase s :=
  inIteration_of_active s _ h

theorem exec_iter {s : State} (h : s.phase ≠ .done) : exec .iter s = iteration s := inIteration_of_active s _ h

/-! ## HALTCHK (R286) -/

theorem haltCheck_of_later {s : State} (h : s.firstIter = false) (scanOk : Bool) : haltCheck scanOk s = s := by
  simp [haltCheck, h]

theorem haltCheck_of_scanFailed (s : State) : haltCheck false s = s := by
  simp [haltCheck]

/-- Settles O46, by whether the first iteration is still to come and by the switch. -/
theorem haltCheckOncePerSession : Obligations.HaltCheckOncePerSession := by
  unfold Obligations.HaltCheckOncePerSession
  intro s hs
  simp only [exec_haltchk _ hs]
  refine ⟨fun hfirst hswitch => ?halts, fun hfirst hswitch => ?runsOn, fun hlater => ?later, ?scanFailed⟩
  case halts => simp [haltCheck_eq, hfirst, hswitch]
  case runsOn => simp [haltCheck_eq, hfirst, hswitch]
  case later => rw [haltCheck_of_later hlater]
  case scanFailed => rw [haltCheck_of_scanFailed]

/-! ## The stop check (R281) -/

theorem stopPhase_of_keepRunning {s : State} (h : s.keepRunning = true) : stopPhase s = { s with phase := .stopchk } := by
  simp [stopPhase_eq, h]

theorem stopPhase_of_stopRequest {s : State} (h : s.keepRunning = false) :
    stopPhase s = { s with phase := .done, sessionResult := .exit } := by
  simp [stopPhase_eq, h]

theorem iteration_of_stopRequest {s : State} (h : s.keepRunning = false) :
    iteration s = .next { s with phase := .done, sessionResult := .exit, work := Work.idle } := by
  simp [iteration, stopPhase_of_stopRequest h, endIteration]

/-- Settles O53: the two branches of the stop check. -/
theorem stopRequestEndsSession : Obligations.StopRequestEndsSession := by
  unfold Obligations.StopRequestEndsSession
  intro s hs
  rw [exec_iter hs, exec_phaseStopchk hs]
  exact ⟨fun hstop => ⟨iteration_of_stopRequest hstop, by rw [stopPhase_of_stopRequest hstop]⟩,
    fun hgoes => by rw [stopPhase_of_keepRunning hgoes]⟩

/-! ## ITER after its stop check (R280, R285) -/

/-- P_ENCODE and P_DRIVE, then the end of ITER. -/
def redraw (c : State) : State := endIteration (drivePhase (encodePhase c))

/-- What ITER does after P_CONTROL: the redraw is left out where the session has ended. -/
def finish (c : State) : State := if c.phase = .done then endIteration c else redraw c

theorem iteration_of_keepRunning {s : State} (h : s.keepRunning = true) :
    iteration s = andThen (controlPhase (samplePanel { s with phase := .stopchk })) fun c => .next (finish c) := by
  unfold iteration
  simp only [stopPhase_of_keepRunning h, reduceCtorEq, if_false]
  congr 1
  funext c
  unfold finish
  split <;> rfl

/-- The redraw writes the phase, the loop index and the lines of DRIVE and the trace, and clears the iteration's
values. -/
theorem redraw_eq (c : State) :
    redraw c =
      { c with
        phase := .drive, ledRow := (redraw c).ledRow, ports := (redraw c).ports, work := Work.idle
        trace := (redraw c).trace, free := (redraw c).free } := by
  have hdrive := driveGrid_frame (encodePhase c).work.grid { encodePhase c with phase := .drive }
  exact congrArg endIteration hdrive

/-! ## P_CONTROL: the halt check and the take, then CONTROL or the wait (R282 to R284, R286) -/

/-- What P_CONTROL does first: HALTCHK on the scan's result, then SNAP.TAKE. -/
def enterControl (s : State) : State := takeSnapshot (haltCheck s.work.scanOk { s with phase := .control })

theorem takeSnapshot_taken (s : State) : (takeSnapshot s).work.taken = s.snapReady := by
  unfold takeSnapshot landMidTake readMailbox
  cases s.midTake <;> cases s.snapReady <;> rfl

theorem controlPhase_eq (s : State) :
    controlPhase s =
      if s.snapReady then controlBody (enterControl s) else .next (waitFor .idle (enterControl s)) := by
  have htaken : (enterControl s).work.taken = s.snapReady := by
    rw [enterControl, takeSnapshot_taken, haltCheck_eq]
  rw [← htaken]; rfl

/-- Up to CONTROL or the wait P_CONTROL writes the phase, first_iter, what a take writes, and records the SimHalt() of
HALTCHK. -/
theorem enterControl_eq (s : State) :
    enterControl s =
      { s with
        phase := .control, firstIter := s.firstIter && !s.work.scanOk
        trace := s.trace ++
          if s.firstIter = true ∧ s.work.scanOk = true ∧ s.ps.swEnableHalt = false then [.sim .halt] else []
        snap := (enterControl s).snap, snapReady := (enterControl s).snapReady
        midTake := (enterControl s).midTake, actBuf := (enterControl s).actBuf, work := (enterControl s).work } := by
  unfold enterControl
  rw [takeSnapshot_frame, haltCheck_eq]

/-- With no snapshot ready nothing is read: the activity counts shown stay (R71). -/
theorem takeSnapshot_actBuf_of_notReady {s : State} (h : s.snapReady = false) : (takeSnapshot s).actBuf = s.actBuf := by
  simp [takeSnapshot, h]

theorem enterControl_actBuf_of_notReady {s : State} (h : s.snapReady = false) : (enterControl s).actBuf = s.actBuf := by
  rw [enterControl, takeSnapshot_actBuf_of_notReady (by rw [haltCheck_eq]; exact h), haltCheck_eq]

/-- CONTROL after a take reads the mailbox once more, to the values the take read (log 21). -/
theorem controlLogic_takeSnapshot {s : State} (hready : s.snapReady = true) (hmid : s.midTake = none) :
    controlLogic (takeSnapshot s) = controlBody (takeSnapshot s) := by
  have htake := (takeSnapshot_alone hmid).trans (if_pos hready)
  have hmid' : (takeSnapshot s).midTake = none := by rw [htake]; exact hmid
  have hread : withMailboxRead (takeSnapshot s) = takeSnapshot s := by rw [htake]; rfl
  rw [controlLogic_alone hmid', hread]

theorem exec_control_enterControl {s : State} (hready : s.snapReady = true) (hmid : s.midTake = none) :
    exec .control (enterControl s) = controlBody (enterControl s) := by
  have hactive : (enterControl s).phase ≠ .done := by rw [enterControl_eq]; simp
  rw [exec_control hactive]
  exact controlLogic_takeSnapshot (by rw [haltCheck_eq]; exact hready) (by rw [haltCheck_eq]; exact hmid)

/-! ## The phases one after the other (R280) -/

theorem runAll_cons_of_next {i : Instr} {s t : State} (h : exec i s = .next t) (rest : List Instr) :
    runAll (i :: rest) s = runAll rest t := by
  rw [runAll, h, andThen_next]

theorem runAll_singleton (i : Instr) (s : State) : runAll [i] s = exec i s := by
  rw [runAll]; cases exec i s <;> rfl

theorem scanMatrix_phase (s : State) : (scanMatrix s).phase = s.phase := by rw [scanMatrix_frame]

/-- P_SCAN, where it succeeds P_DECODE and P_FEED, and P_CONTROL, run as rows. -/
theorem runAll_scanToControl {s : State} (hs : s.phase ≠ .done) :
    runAll (.phaseScan :: (if s.ioOkScan then [.phaseDecode, .phaseFeed] else []) ++ [.phaseControl]) s =
      controlPhase (samplePanel s) := by
  have hscan := exec_phaseScan hs
  have hscanned : (scanMatrix { s with phase := .scan }).phase ≠ .done := by rw [scanMatrix_phase]; simp
  rw [samplePanel_eq]
  by_cases hok : s.ioOkScan = true
  case neg =>
    rw [if_neg hok, if_neg hok]
    exact (runAll_cons_of_next hscan _).trans ((runAll_singleton _ _).trans (exec_phaseControl hscanned))
  case pos =>
    rw [if_pos hok, if_pos hok]
    have hdecode := exec_phaseDecode hscanned
    have hfeed := exec_phaseFeed (s := decodePhase (scanMatrix { s with phase := .scan })) nofun
    have hcontrol := exec_phaseControl (s := feedPhase (decodePhase (scanMatrix { s with phase := .scan }))) nofun
    exact (runAll_cons_of_next hscan _).trans ((runAll_cons_of_next hdecode _).trans
      ((runAll_cons_of_next hfeed _).trans ((runAll_singleton _ _).trans hcontrol)))

/-- P_ENCODE and P_DRIVE run as rows. -/
theorem runAll_encodeDrive {s : State} (hs : s.phase ≠ .done) :
    runAll [.phaseEncode, .phaseDrive] s = .next (drivePhase (encodePhase s)) := by
  have hdrive := exec_phaseDrive (s := encodePhase s) nofun
  exact (runAll_cons_of_next (exec_phaseEncode hs) _).trans ((runAll_singleton _ _).trans hdrive)

/-- Settles O54: the phases run as rows are `samplePanel`, `controlPhase` and the redraw; P_CONTROL by whether a snapshot
was ready. -/
theorem iterationRunsItsPhases : Obligations.IterationRunsItsPhases := by
  unfold Obligations.IterationRunsItsPhases
  intro s hs
  refine ⟨fun hkeep a hrun => ?iter, haltCheck s.work.scanOk { s with phase := .control }, enterControl s,
    exec_haltchk _ nofun, rfl, fun hclear => ?waits, fun hready hmid => ?controls⟩
  case iter =>
    have hcontrol : controlPhase (samplePanel { s with phase := .stopchk }) = .next a := by
      rw [List.cons_append, runAll_cons_of_next (exec_phaseStopchk hs), stopPhase_of_keepRunning hkeep] at hrun
      exact (runAll_scanToControl (s := { s with phase := .stopchk }) nofun).symm.trans hrun
    have hiter : exec .iter s = .next (finish a) := by
      rw [exec_iter hs, iteration_of_keepRunning hkeep, hcontrol, andThen_next]
    rw [hiter]
    exact ⟨fun hdone => congrArg Host.Outcome.next (if_pos hdone),
      fun hgoes => ⟨_, runAll_encodeDrive hgoes, congrArg Host.Outcome.next (if_neg hgoes)⟩⟩
  case waits => rw [exec_phaseControl hs, controlPhase_eq, if_neg (by simp [hclear])]; rfl
  case controls => rw [exec_phaseControl hs, controlPhase_eq, if_pos hready, exec_control_enterControl hready hmid]

/-! ## Completion (R302, R304, R315) -/

/-- The stop flag, the agenda and the inputs are the same in `t` as in `s`. -/
structure InputsKept (s t : State) : Prop where
  agenda : t.agenda = s.agenda
  keepRunning : t.keepRunning = s.keepRunning
  colIn : t.colIn = s.colIn
  ioOkScan : t.ioOkScan = s.ioOkScan
  ioOkDrive : t.ioOkDrive = s.ioOkDrive

theorem samplePanel_inputsKept (s : State) : InputsKept s (samplePanel s) := by
  rw [samplePanel_frame]; exact ⟨rfl, rfl, rfl, rfl, rfl⟩

theorem controlPhase_inputsKept {s t : State} (h : controlPhase s = .next t) : InputsKept s t := by
  rcases controlPhase_cases h with ⟨-, rfl⟩ | ⟨-, hbody⟩
  · rw [takeSnapshot_frame, haltCheck_eq]; exact ⟨rfl, rfl, rfl, rfl, rfl⟩
  · rw [(controlBody_frame hbody).2, takeSnapshot_frame, haltCheck_eq]; exact ⟨rfl, rfl, rfl, rfl, rfl⟩

theorem finish_inputsKept (c : State) : InputsKept c (finish c) := by
  unfold finish
  split
  · exact ⟨rfl, rfl, rfl, rfl, rfl⟩
  · rw [redraw_eq]; exact ⟨rfl, rfl, rfl, rfl, rfl⟩

theorem InputsKept.trans {s t u : State} (h1 : InputsKept s t) (h2 : InputsKept t u) : InputsKept s u :=
  ⟨h2.agenda.trans h1.agenda, h2.keepRunning.trans h1.keepRunning, h2.colIn.trans h1.colIn,
    h2.ioOkScan.trans h1.ioOkScan, h2.ioOkDrive.trans h1.ioOkDrive⟩

theorem finish_work (c : State) : (finish c).work = Work.idle := by
  unfold finish; split <;> rfl

theorem controlLogic_completes {s : State} (h : everyCallReturns s.answers) : ∃ t, controlLogic s = .next t :=
  controlBody_completes (by simpa using h)

theorem controlPhase_completes {s : State} (h : everyCallReturns s.answers) : ∃ t, controlPhase s = .next t := by
  rw [controlPhase_eq]
  split
  · exact controlBody_completes (by rw [enterControl_eq]; exact h)
  · exact ⟨_, rfl⟩

/-- ITER completes wherever every call returns, leaves no iteration value behind and keeps the inputs. -/
theorem iteration_completes {s : State} (h : everyCallReturns s.answers) :
    ∃ t, iteration s = .next t ∧ t.work = Work.idle ∧ InputsKept s t := by
  cases hkeep : s.keepRunning
  case false => exact ⟨_, iteration_of_stopRequest hkeep, rfl, rfl, rfl, rfl, rfl, rfl⟩
  case true =>
    have hsampled : InputsKept s (samplePanel { s with phase := .stopchk }) :=
      .trans ⟨rfl, rfl, rfl, rfl, rfl⟩ (samplePanel_inputsKept _)
    obtain ⟨c, hc⟩ := controlPhase_completes (s := samplePanel { s with phase := .stopchk })
      (by rw [samplePanel_frame]; exact h)
    refine ⟨finish c, ?_, finish_work c, (hsampled.trans (controlPhase_inputsKept hc)).trans (finish_inputsKept c)⟩
    rw [iteration_of_keepRunning hkeep, hc, andThen_next]

/-- Settles O50: the commands of CONTROL are the only operations that can be stuck. -/
theorem iterationCompletes : Obligations.IterationCompletes := by
  unfold Obligations.IterationCompletes
  intro s hs hreturns
  rw [exec_iter hs, exec_control hs, exec_phaseControl hs]
  obtain ⟨t, ht, hwork, hkept⟩ := iteration_completes hreturns
  exact ⟨⟨t, ht, hwork, hkept.agenda, hkept.keepRunning, hkept.colIn, hkept.ioOkScan, hkept.ioOkDrive⟩,
    controlLogic_completes hreturns, controlPhase_completes hreturns⟩

/-! ## What SCAN and DRIVE add to the trace -/

/-- `t` adds events to the trace of `s` among which there is no simulator call. -/
def addsNoCall (s t : State) : Prop := ∃ es, t.trace = s.trace ++ es ∧ simCallsOf es = []

theorem scanMatrix_addsNoCall (s : State) : addsNoCall s (scanMatrix s) := by
  rw [scanMatrix_eq]
  split
  · exact ⟨_, rfl, rfl⟩
  · exact ⟨_, rfl, rfl⟩

theorem driveGrid_addsNoCall (grid : LedGrid) (s : State) : addsNoCall s (driveGrid grid s) := by
  rw [driveGrid_eq]
  split
  · exact ⟨_, rfl, rfl⟩
  · exact ⟨_, rfl, rfl⟩

theorem samplePanel_addsNoCall (s : State) : addsNoCall s (samplePanel s) := by
  rw [samplePanel_eq]
  split
  · exact scanMatrix_addsNoCall { s with phase := .scan }
  · exact scanMatrix_addsNoCall { s with phase := .scan }

theorem redraw_addsNoCall (c : State) : addsNoCall c (redraw c) :=
  driveGrid_addsNoCall (encodePhase c).work.grid { encodePhase c with phase := .drive }

/-! ## What P_SCAN to P_FEED leave (R148, R282) -/

theorem samplePanel_scanOk (s : State) : (samplePanel s).work.scanOk = s.ioOkScan := by
  rw [samplePanel_eq, scanMatrix_eq]
  cases s.ioOkScan <;> rfl

/-- Where the scan succeeds the positions shown are the decoders' (R148). -/
theorem samplePanel_positions {s : State} (h : s.ioOkScan = true) :
    (samplePanel s).ps.r1Position = BitVec.ofNat 3 (samplePanel s).rot1.position ∧
      (samplePanel s).ps.r2Position = BitVec.ofNat 2 (samplePanel s).rot2.position := by
  rw [samplePanel_eq, if_pos h]; exact ⟨rfl, rfl⟩

/-- Where the scan fails PanelState and the decoders keep their values (R282). -/
theorem samplePanel_of_failure {s : State} (h : s.ioOkScan = false) :
    (samplePanel s).ps = s.ps ∧ (samplePanel s).rot1 = s.rot1 ∧ (samplePanel s).rot2 = s.rot2 := by
  rw [samplePanel_eq, if_neg (by simp [h]), scanMatrix_frame]; exact ⟨rfl, rfl, rfl⟩

/-! ## ITER without a snapshot (R282, R284) -/

/-- The state in which an ITER without a snapshot comes to its redraw, from the state its stop check leaves. -/
def idled (s : State) : State := waitFor .idle (enterControl (samplePanel s))

theorem iteration_withoutSnapshot {s : State} (hkeep : s.keepRunning = true) (hclear : s.snapReady = false) :
    iteration s = .next (redraw (idled { s with phase := .stopchk })) := by
  have hwaits : controlPhase (samplePanel { s with phase := .stopchk }) =
      .next (idled { s with phase := .stopchk }) := by
    rw [controlPhase_eq, if_neg (by rw [samplePanel_frame]; simp [hclear])]; rfl
  have hgoes : (idled { s with phase := .stopchk }).phase ≠ .done := by
    rw [idled, enterControl_eq]; simp
  rw [iteration_of_keepRunning hkeep, hwaits, andThen_next, finish, if_neg hgoes]

/-- Before its redraw an ITER without a snapshot writes only what P_SCAN to P_FEED write, first_iter, the mailbox where a
snapshot landed, and the trace. -/
theorem idled_frame {s : State} (hclear : s.snapReady = false) :
    idled s =
      { s with
        ps := (samplePanel s).ps, rot1 := (samplePanel s).rot1, rot2 := (samplePanel s).rot2
        firstIter := s.firstIter && !s.ioOkScan
        phase := .control, scanRow := (idled s).scanRow, ports := (idled s).ports
        snap := (idled s).snap, snapReady := (idled s).snapReady, midTake := (idled s).midTake
        work := (idled s).work, trace := (idled s).trace, free := (idled s).free } := by
  have hact : (enterControl (samplePanel s)).actBuf = s.actBuf := by
    rw [enterControl_actBuf_of_notReady (by rw [samplePanel_frame]; exact hclear), samplePanel_frame]
  unfold idled
  rw [enterControl_eq, hact, samplePanel_scanOk, samplePanel_frame]
  rfl

/-- The events of an ITER without a snapshot: the scan's, the SimHalt() of HALTCHK, the wait, the redraw's. -/
theorem withoutSnapshot_trace (s : State) :
    ∃ es, (redraw (idled s)).trace = s.trace ++ es ∧ Event.wait .idle ∈ es ∧
      (simCallsOf es = [] ∨ (s.firstIter = true ∧ s.ioOkScan = true ∧ simCallsOf es = [.halt])) := by
  obtain ⟨scanned, hscan, hscanCalls⟩ := samplePanel_addsNoCall s
  obtain ⟨drawn, hdraw, hdrawCalls⟩ := redraw_addsNoCall (idled s)
  have hfirst : (samplePanel s).firstIter = s.firstIter := by rw [samplePanel_frame]
  have hidled : (idled s).trace = (enterControl (samplePanel s)).trace ++ [.wait .idle] := rfl
  rw [hdraw, hidled, enterControl_eq]
  simp only [hscan, hfirst, samplePanel_scanOk, List.append_assoc]
  refine ⟨_, rfl, by simp, ?_⟩
  simp only [simCallsOf_append, hscanCalls, hdrawCalls]
  split
  case isTrue h => obtain ⟨hf, hok, -⟩ := h; exact .inr ⟨hf, hok, rfl⟩
  case isFalse => exact .inl rfl

/-- Settles O55: the phases of an ITER without a snapshot, each by its frame and what it adds to the trace. -/
theorem iterationWithoutSnapshot : Obligations.IterationWithoutSnapshot := by
  unfold Obligations.IterationWithoutSnapshot
  intro s hs hkeep hclear
  obtain ⟨es, htrace, hwait, hcalls⟩ := withoutSnapshot_trace { s with phase := .stopchk }
  refine ⟨redraw (idled { s with phase := .stopchk }), es,
    (exec_iter hs).trans (iteration_withoutSnapshot hkeep hclear), htrace, ?_⟩
  rw [redraw_eq, idled_frame (s := { s with phase := .stopchk }) hclear]
  refine ⟨rfl, rfl, rfl, rfl, rfl, rfl, rfl, rfl, rfl, congrArg State.ps (samplePanel_frame _), hcalls, hwait,
    fun hok => samplePanel_positions hok, fun hfails => ?_⟩
  obtain ⟨hps, hrot1, hrot2⟩ := samplePanel_of_failure (s := { s with phase := .stopchk }) hfails
  exact ⟨hps, hrot1, hrot2, by simp [hfails]⟩

end Sys2Proof.Machine
end

section
/-! The session start: the step that takes one in P_DONE, and its refusal while a session runs. -/

namespace Sys2Proof.Machine

theorem step_of_sessionStart {s : State} {rest : List Input} (hag : s.agenda = .startSession :: rest)
    (h : s.phase = .done) : step s = .next (startSession { s with agenda := rest }) := by
  simp only [step, hag, if_pos h]

theorem step_of_sessionStart_active {s : State} {rest : List Input} (hag : s.agenda = .startSession :: rest)
    (h : s.phase ≠ .done) : step s = .refused .sessionStartWhileActive := by
  simp only [step, hag, if_neg h]

/-- Settles O6: in P_DONE the step is the session-start reset, whose six underived flags are the free value drawn (R53);
while a session runs it is the refusal (U17). -/
theorem sessionStartResets : Obligations.SessionStartResets := by
  unfold Obligations.SessionStartResets
  intro s rest hag
  exact ⟨fun hdone => ⟨Config.auxStatus s.free, step_of_sessionStart hag hdone⟩,
    fun hactive => step_of_sessionStart_active hag hactive⟩

end Sys2Proof.Machine
end

section
/-! The code-word port and the stops: a step on a word that selects a row is that row, on the state the port prepared;
the commands that a primitive can leave stuck, and what is refused with no session. -/

namespace Sys2Proof.Machine

/-! ## The row a word selects -/

/-- The operations that are given a snapshot or activity counts have no code word (R125), so a row has no operand to
check. -/
theorem wellFormed_of_encodes {i : Instr} (h : (encode i).isSome = true) : WellFormed i := by
  cases i with
  | encode | deriveKsu | deriveAddr | deriveData | regsel | deriveRange | deriveAux => cases h
  | _ => trivial

/-- The row of a word has that word for its own, in one of the formats that are tried (log 3). -/
theorem encode_of_firstRow {fs : List Format} {e : DecodeError} {w : Nat} {i : Instr} (h : firstRow fs e w = .ok i) :
    ∃ f, encode i = some (f, w) := by
  induction fs with
  | nil => cases h
  | cons f rest ih =>
    unfold firstRow at h
    split at h
    case h_1 j hj => cases h; exact ⟨f, encode_of_decode hj⟩
    case h_2 => exact ih h

/-- Whatever its width, a word selects a row by the row's own code word. -/
theorem encode_eq_of_decodeWord {n w v : Nat} {i : Instr} {f : Format} (h : decodeWord n w = .ok i)
    (hcode : encode i = some (f, v)) : encode i = some (f, w) := by
  obtain ⟨g, hg⟩ := encode_of_firstRow h
  obtain ⟨rfl, rfl⟩ := Prod.mk.inj (Option.some.inj (hg.symm.trans hcode))
  exact hg

/-- The cell of a command's code word is that of a monitored signal (R117, R133). -/
theorem signalAt_of_event {i : Instr} {w : Nat} (h : encode i = some (.ev, w)) : ∃ k, signalAt (w % 64) = some k := by
  cases i with
  | loadAddr | exam | dep | halt | enable | start => cases h; exact ⟨_, rfl⟩
  | cont halted | reload halted | restart halted | test halted => cases halted <;> cases h <;> exact ⟨_, rfl⟩
  | _ => cases h

/-! ## A step on a word -/

theorem step_of_word {s : State} {n w : Nat} {rest : List Input} {i : Instr} (hag : s.agenda = .word n w :: rest)
    (h : decodeWord n w = .ok i) : step s = exec i { s with agenda := rest } := by
  unfold step
  simp only [hag, h]

/-- Settles O4: a word selects a row by its code word, and a row is well-formed. -/
theorem stepRunsDecodedWord : Obligations.StepRunsDecodedWord := by
  unfold Obligations.StepRunsDecodedWord
  intro s n w rest i hag hdec
  exact ⟨wellFormed_of_encodes (firstRow_encodes hdec), step_of_word hag hdec⟩

/-! ## A word on the port (log 2, log 4) -/

/-- A word that is no event is put at the head of the agenda, in a session. -/
theorem withFetchWord_of_noEvent (s : State) {n w v : Nat} {i : Instr} {f : Format} (h : decodeWord n w = .ok i)
    (hcode : encode i = some (f, v)) (hf : f ≠ .ev) :
    s.withFetchWord n w = openSession { s with agenda := .word n w :: s.agenda } := by
  unfold State.withFetchWord presentWord
  simp only [h, hcode]
  cases f with
  | ev => exact absurd rfl hf
  | _ => rfl

/-- With an event word the edge it names and the answer `h` are put there as well (R116). -/
theorem withFetchWord_of_event (s : State) {n w v : Nat} {i : Instr} (h : decodeWord n w = .ok i)
    (hcode : encode i = some (.ev, v)) :
    s.withFetchWord n w = presentEvent w (openSession { s with agenda := .word n w :: s.agenda }) := by
  unfold State.withFetchWord presentWord
  simp only [h, hcode]

theorem presentEvent_of_signal {w : Nat} {k : Fin 9} (h : signalAt (w % 64) = some k) (s : State) :
    presentEvent w s =
      { s with
        work.edges := s.work.edges.set k { rise := w.testBit 6, fall := !w.testBit 6 }
        answers.halted := w.testBit 7 :: s.answers.halted } := by
  unfold presentEvent
  rw [h]

/-- Settles O7, by whether the word is an event. -/
theorem fetchedWordRunsNext : Obligations.FetchedWordRunsNext := by
  unfold Obligations.FetchedWordRunsNext
  intro s n w i f v hdec hcode
  refine ⟨fun hf => ?_, fun hf => ?_⟩
  · rw [withFetchWord_of_noEvent s hdec hcode hf]
    exact step_of_word rfl hdec
  · subst hf
    obtain ⟨k, hk⟩ := signalAt_of_event (encode_eq_of_decodeWord hdec hcode)
    refine ⟨k, hk, ?_⟩
    rw [withFetchWord_of_event s hdec hcode, presentEvent_of_signal hk]
    exact step_of_word rfl hdec

/-! ## Primitives that never return (spec/93_implementation_defined.md U16) -/

/-- The shape EXAM, DEP and START share: the edge, the run state, and a primitive that may be stuck. -/
theorem primitiveCommand_fault_iff (fall halted stuck : Bool) (answered running quiet : State) (f : Fault) :
    (if fall then if halted then if stuck then .fault .primitiveNeverReturns else .next answered else .next running
      else .next quiet : Result) = .fault f ↔
      f = .primitiveNeverReturns ∧ fall = true ∧ halted = true ∧ stuck = true := by
  cases fall with
  | false => simp
  | true =>
    cases halted with
    | false => simp
    | true => cases stuck <;> simp [eq_comm]

theorem afterHalted_reads (s : State) : (afterHalted s).answers.reads = s.answers.reads := by
  rw [afterHalted_answers]

theorem afterHalted_writes (s : State) : (afterHalted s).answers.writes = s.answers.writes := by
  rw [afterHalted_answers]

theorem afterHalted_setRegs (s : State) : (afterHalted s).answers.setRegs = s.answers.setRegs := by
  rw [afterHalted_answers]

theorem examineWord_fault_iff (s : State) (f : Fault) :
    examineWord s = .fault f ↔ f = .primitiveNeverReturns ∧ (edgeOf 2 s).fall = true ∧ haltedNow s = true ∧
      ∃ rest, s.answers.reads = .never :: rest := by
  rw [← afterHalted_reads s, ← readStuck_iff]
  exact primitiveCommand_fault_iff ..

theorem depositWord_fault_iff (s : State) (f : Fault) :
    depositWord s = .fault f ↔ f = .primitiveNeverReturns ∧ (edgeOf 3 s).fall = true ∧ haltedNow s = true ∧
      ∃ rest, s.answers.writes = .never :: rest := by
  rw [← afterHalted_writes s, ← ackStuck_iff]
  exact primitiveCommand_fault_iff ..

/-- START asks for a halted simulator: `START_REQUIRES_HALT` is set (R232). -/
theorem startCpu_fault_iff (s : State) (f : Fault) :
    startCpu s = .fault f ↔ f = .primitiveNeverReturns ∧ (edgeOf 6 s).fall = true ∧ haltedNow s = true ∧
      ∃ rest, s.answers.setRegs = .never :: rest := by
  have hasks : (haltedNow s || !Config.startRequiresHalt) = haltedNow s := Bool.or_false _
  rw [← afterHalted_setRegs s, ← ackStuck_iff, startCpu, hasks]
  exact primitiveCommand_fault_iff ..

/-! ## With no session (U17, U18) -/

theorem inSession_of_done {s : State} (h : s.phase = .done) (o : Result) : inSession s o = .refused .noSession :=
  if_pos h

theorem inIteration_of_done {s : State} (h : s.phase = .done) (o : Result) :
    inIteration s o = .refused .iterWhileDone := if_pos h

/-- The commands that reach the simulator, and CONTROL, guard their whole meaning by the session (U18). -/
theorem exec_eq_inSession {i : Instr} (h : i ∈ [Instr.loadAddr, .exam, .dep, .halt, .enable, .start, .control])
    (s : State) : ∃ o, exec i s = inSession s o := by
  simp only [List.mem_cons, List.not_mem_nil, or_false] at h
  rcases h with rfl | rfl | rfl | rfl | rfl | rfl | rfl <;> exact ⟨_, rfl⟩

/-- ITER and its phases but P_DONE guard their whole meaning by the session (U17). -/
theorem exec_eq_inIteration {i : Instr}
    (h : i ∈ [Instr.iter, .phaseStopchk, .phaseScan, .phaseDecode, .phaseFeed, .phaseControl, .phaseEncode, .phaseDrive])
    (s : State) : ∃ o, exec i s = inIteration s o := by
  simp only [List.mem_cons, List.not_mem_nil, or_false] at h
  rcases h with rfl | rfl | rfl | rfl | rfl | rfl | rfl | rfl <;> exact ⟨_, rfl⟩

/-- Settles O45: the three commands by the shape they share; every refusal is the guard's. -/
theorem stopsByName : Obligations.StopsByName := by
  unfold Obligations.StopsByName
  refine fun s => ⟨fun hs f => ?_, fun hdone => ⟨fun i hi => ?_, fun b => ?_, fun i hi => ?_⟩⟩
  · rw [exec_exam hs, exec_dep hs, exec_start hs]
    exact ⟨examineWord_fault_iff s f, depositWord_fault_iff s f, startCpu_fault_iff s f⟩
  · obtain ⟨o, ho⟩ := exec_eq_inSession hi s
    exact ho.trans (inSession_of_done hdone o)
  · exact ⟨inSession_of_done hdone _, inSession_of_done hdone _⟩
  · obtain ⟨o, ho⟩ := exec_eq_inIteration hi s
    exact ho.trans (inIteration_of_done hdone o)

end Sys2Proof.Machine
end
